-- ==== Sys2Proof/Word.lean ====
section
/-! DEFINITION. The units of the manual's quantities (00_scope 6.1 to 6.5): signed millimetres and
millimetres per second, microseconds on the timebase, and the byte of the winder link (R168). -/

namespace Sys2Proof

/-- One byte of a link frame (R168). -/
abbrev Byte := BitVec 8

/-- A depth or a length, signed millimetres (00_scope 6.1). -/
abbrev Depth := Int

/-- A speed or a speed limit, signed millimetres per second (00_scope 6.2). -/
abbrev Speed := Int

/-- A moment or a span on the 1 µs timebase (00_scope 6.4). -/
abbrev Micros := Nat

end Sys2Proof
end

