-- ==== Sys2Proof/Syntax.lean ====
section
/-! DEFINITION. The commands of the part: one constructor of `Instr` for each row of
spec/opcode_table.json, with the operands the row's rule gives it. Every command carries `t`, the moment
on the 1 µs timebase at which it is taken (log 1). -/

namespace Sys2Proof

/-- A channel of the supervisor (00_scope section 2). -/
inductive Channel where
  | a | b
  deriving DecidableEq, Repr

/-- The two link ports (R168): `up` toward the controller, `down` toward the drives. -/
inductive Port where
  | up | down
  deriving DecidableEq, Repr

/-- A link frame (R168) whose length and CRC are right: LEN is the number of payload bytes and the CRC is
formed over the rest (R169), so neither is held. -/
structure LinkFrame where
  dest    : Byte
  src     : Byte
  kind    : Byte
  payload : List Byte
  deriving DecidableEq, Repr

/-- KIND codes of R168. -/
def LinkFrame.kindRef : Byte := 0x01
/-- KIND codes of R168. -/
def LinkFrame.kindFbk : Byte := 0x02
/-- KIND codes of R168. -/
def LinkFrame.kindMreq : Byte := 0x03
/-- KIND codes of R168. -/
def LinkFrame.kindMrep : Byte := 0x04

/-- The commands, in the order of the table. -/
inductive Instr where
  /-- R80: a REF frame of an in-use drive is taken in on the upstream port. -/
  | refFrameReceived (t : Micros) (f : LinkFrame)
  /-- R4, R6: an FBK frame of an in-use drive is taken in on the downstream port. -/
  | fbkFrameReceived (t : Micros) (f : LinkFrame)
  /-- R6 to R19: the evaluation of the frame handed over for channel `c` is run. -/
  | feedbackEvaluation (t : Micros) (c : Channel)
  /-- R175: an MREQ addressed to the part is taken in on the upstream port. -/
  | mreqReceived (t : Micros) (f : LinkFrame)
  /-- R170: a good frame that is sorted to no block is taken in on port `p`. -/
  | passThroughFrame (t : Micros) (p : Port) (f : LinkFrame)
  /-- R169: a run of bytes that is a bad frame is taken in on port `p`. -/
  | badFrame (t : Micros) (p : Port) (bytes : List Byte)
  /-- R171, R181: the upstream port becomes free. -/
  | upstreamPortGrant (t : Micros)
  /-- R98: the downstream port becomes free. -/
  | downstreamPortGrant (t : Micros)
  /-- R178: the engine executes a STATUS at the head of the request queue. -/
  | status (t : Micros)
  /-- R179: the engine executes a CONVEYANCE READ at the head of the request queue. -/
  | conveyanceRead (t : Micros)
  /-- R154: the engine executes a ROW READ at the head of the request queue. -/
  | rowRead (t : Micros)
  /-- R155, R156: the engine executes a ROW WRITE at the head of the request queue. -/
  | rowWrite (t : Micros)
  /-- R155, R156: the engine executes a ROW INSERT at the head of the request queue. -/
  | rowInsert (t : Micros)
  /-- R156: the engine executes a ROW DELETE at the head of the request queue. -/
  | rowDelete (t : Micros)
  /-- R157: the engine executes a ROW FIND at the head of the request queue. -/
  | rowFind (t : Micros)
  /-- R158: the engine executes an ENTRY READ at the head of the request queue. -/
  | entryRead (t : Micros)
  /-- R158: the engine executes an ENTRY WRITE at the head of the request queue. -/
  | entryWrite (t : Micros)
  /-- R180: the engine executes a RESTRICT READ at the head of the request queue. -/
  | restrictRead (t : Micros)
  /-- R65, R66: the engine executes a RESTRICT WRITE at the head of the request queue. -/
  | restrictWrite (t : Micros)
  /-- R159: the engine executes a BANK COPY at the head of the request queue. -/
  | bankCopy (t : Micros)
  /-- R160: the engine executes a BANK CHECK at the head of the request queue. -/
  | bankCheck (t : Micros)
  /-- R160, R161: the CHECK under way completes. -/
  | checkCompletes (t : Micros)
  /-- R163: the engine executes a BANK COMMIT at the head of the request queue. -/
  | bankCommit (t : Micros)
  /-- R164: the engine executes a COMMIT CANCEL at the head of the request queue. -/
  | commitCancel (t : Micros)
  /-- R46, R47: the engine executes a DUTY at the head of the request queue. -/
  | duty (t : Micros)
  /-- R130: the engine executes a CLEAR at the head of the request queue. -/
  | clear (t : Micros)
  /-- R112, R113: the engine executes a BACKOUT at the head of the request queue. -/
  | backout (t : Micros)
  /-- R129: the engine executes an EVENT INJECT at the head of the request queue. -/
  | eventInject (t : Micros)
  /-- R181: the engine executes a SOFT RESET at the head of the request queue. -/
  | softReset (t : Micros)
  /-- R175: the engine answers an ill-formed request at the head of the request queue. -/
  | badRequest (t : Micros)
  /-- R5: the quadrature phases of the measuring wheel come to the levels given. -/
  | measuringWheelTransition (t : Micros) (phase1 phase2 : Bool)
  /-- R24: the raw level of a mark input comes to `level` (true for asserted). -/
  | markInputChange (t : Micros) (line : Nat) (level : Bool)
  /-- R24, R25: a mark input's candidate has aged 200 µs. -/
  | markFilterAccept (t : Micros) (line : Nat)
  /-- R116: the raw level of a permit input comes to `level` (true for asserted). -/
  | permitInputChange (t : Micros) (c : Channel) (line : Nat) (level : Bool)
  /-- R116, R117: a permit input's candidate has aged 200 µs. -/
  | permitFilterAccept (t : Micros) (c : Channel) (line : Nat)
  /-- R140: the raw level of a trip line readback comes to `level` (true for closed). -/
  | readbackInputChange (t : Micros) (c : Channel) (level : Bool)
  /-- R140, R141: a readback input's candidate has aged 200 µs. -/
  | readbackFilterAccept (t : Micros) (c : Channel)
  /-- R141: a readback window expires. -/
  | readbackWindowExpiry (t : Micros) (c : Channel)
  /-- R20: a feedback gap timer expires. -/
  | fbkGapTimerExpiry (t : Micros) (c : Channel)
  /-- R91, R92: a reference gap timer expires. -/
  | refGapTimerExpiry (t : Micros) (c : Channel)
  /-- R95: a substitute period timer expires. -/
  | substitutePeriodExpiry (t : Micros) (c : Channel)
  /-- R146: a half-period of the hold generator ends. -/
  | holdGeneratorHalfPeriod (t : Micros)
  /-- R147: a half-period of the flash generator ends. -/
  | flashGeneratorHalfPeriod (t : Micros)
  /-- R182: power-up. -/
  | powerOn (t : Micros)
  /-- R182: the supply becomes established; `straps` are the levels the strap pins then show (R172). -/
  | supplyEstablished (t : Micros) (straps : BitVec 4)
  /-- R182: the RESET input is asserted. -/
  | resetInputAsserted (t : Micros)
  /-- R182: the RESET input is deasserted; `straps` are the levels the strap pins then show (R172). -/
  | resetInputDeasserted (t : Micros) (straps : BitVec 4)
  /-- R182: the 1,000 µs of a SOFT RESET end; `straps` are the levels the strap pins then show (R172). -/
  | softResetPeriodEnd (t : Micros) (straps : BitVec 4)
  deriving DecidableEq, Repr

end Sys2Proof
end

