-- ==== Sys2Proof/Config.lean ====
section
/-! DEFINITION. What the manual leaves free: constants with no body, of which nothing can be proved. -/

namespace Sys2Proof.Config

/-- Log 18, DESIGN CHOICE. What a frame field of `w` bits carries when the value to be sent does not fit
the field. The manual gives the field's width (R177) and no value for such a send. -/
opaque unfit : (w : Nat) → Int → BitVec w

/-- Log 19, DESIGN CHOICE. What a 64-bit accumulator (R1) holds after a sum outside 64 bits. The manual
says that no formula overflows within its stated ranges, and states none for the accumulators. -/
opaque fineOverflow : Int → BitVec 64

/-- Log 13, DESIGN CHOICE. The n-th choice where the manual says "in either order" and both halves
belong to one command (R98, R135, R173): true puts the first named first. -/
opaque freeChoice : Nat → Bool

end Sys2Proof.Config
end

