-- ==== Sys2Proof/Machine/Types.lean ====
section
/-! DEFINITION. The kinds of thing State holds: enumerations, table entries, records, timers, notices and
queued frames, in the manual's names. -/

namespace Sys2Proof.Machine

/-- The three conveyances (R1). -/
inductive Conveyance where
  | cage | cwt | skip
  deriving DecidableEq, Repr

/-- A direction of travel (00_scope 6.3). -/
inductive Dir where
  | down | up
  deriving DecidableEq, Repr

/-- The seven channel states (R101). -/
inductive ChanState where
  | idle | ready | run | stopping | held | tripped | backout
  deriving DecidableEq, Repr

/-- The class of a route (R121, R122), lowest first. -/
inductive EvClass where
  | note | stop | trip
  deriving DecidableEq, Repr

/-- The latch field of a route (R122). -/
inductive Latch where
  | follow | latch
  deriving DecidableEq, Repr

/-- The scope field of a route (R122). -/
inductive Scope where
  | own | both
  deriving DecidableEq, Repr

/-- A route entry (R122). -/
structure Route where
  cls    : EvClass
  latch  : Latch
  scope  : Scope
  notify : Bool
  deriving DecidableEq, Repr

/-- The 24 event sources of a channel, numbered 0 to 23 in this order (R121). -/
inductive Source where
  | overspeed | overwindDeep | overwindHigh | barrierEntry | reverseMotion | ropeSlip
  | countJump | fbkLoss | extTrip | triplineStuck | creepExcess | markDisagree | markMissed
  | linkLoss | permitLost | lossLimit | markUnexpected | lowAlarm0 | lowAlarm1 | derateChange
  | refClamped | refBlocked | refEarly | refStale
  deriving DecidableEq, Repr

/-- The three sources of the part itself (R132), numbered 24 to 26. -/
inductive PartSource where
  | commitDone | commitCancelled | checkDone
  deriving DecidableEq, Repr

/-- The state of a flag (R124). -/
inductive FlagState where
  | clear | following | latched
  deriving DecidableEq, Repr

/-- A pair of limits, one for the conveyance's own DOWN travel and one for its own UP travel. -/
structure Limits where
  down : Speed
  up   : Speed
  deriving DecidableEq, Repr

/-- A profile row (R43): a depth and a pair of limits for each duty plane 0 to 3. -/
structure Row where
  depth  : Depth
  plane0 : Limits
  plane1 : Limits
  plane2 : Limits
  plane3 : Limits
  deriving DecidableEq, Repr

/-- The direction field of a mark entry (R26). -/
inductive MarkDir where
  | down | up | both
  deriving DecidableEq, Repr

/-- A mark table entry (R26). -/
structure MarkEntry where
  valid : Bool
  line  : Nat
  conv  : Conveyance
  depth : Depth
  tol   : Depth
  dir   : MarkDir
  deriving DecidableEq, Repr

/-- A derate group (R69). -/
structure DerateGroup where
  enable  : Bool
  select  : Nat
  gate    : Int
  release : Int
  k       : Int
  deriving DecidableEq, Repr

/-- A low alarm group (R71). -/
structure LowAlarm where
  enable : Bool
  select : Nat
  gate   : Int
  deriving DecidableEq, Repr

/-- A derate table (R150): derate groups 0 to 3 and low alarm groups 0 and 1. -/
structure DerateTable where
  groups : List DerateGroup
  alarm0 : LowAlarm
  alarm1 : LowAlarm
  deriving DecidableEq, Repr

/-- The direction of an encoder (R3): NORMAL stands for +1 and REVERSED for −1. -/
inductive EncDir where
  | normal | reversed
  deriving DecidableEq, Repr

/-- The three depth parameters of a conveyance (R52). -/
structure ConvParams where
  top    : Depth
  bottom : Depth
  home   : Depth
  deriving DecidableEq, Repr

/-- A channel parameter record (R151, with R3, R52, R60, R78, R115, R139). `prim` holds the parameters of
the primary conveyance (indices 15 to 17) and `cwt` those of the counterweight (18 to 20). -/
structure Params where
  inUse     : Bool
  driveAddr : Int
  tNom      : Int
  f         : Int
  vMax      : Int
  vRest     : Int
  sD        : Int
  drumDir   : EncDir
  datum     : Int
  sS        : Int
  sheaveDir : EncDir
  lBal      : Int
  creepLim  : Int
  slipStep  : Int
  k         : Int
  prim      : ConvParams
  cwt       : ConvParams
  clearance : Int
  vUnconf   : Int
  vCreep    : Int
  tCeil     : Int
  mAbs      : Int
  aStop     : Int
  aTrip     : Int
  g         : Int
  tLong     : Int
  permitEn  : BitVec 8
  tRb       : Int
  deriving DecidableEq, Repr

/-- A bank: the ten tables of R150. -/
structure Bank where
  cage    : List Row
  cwt     : List Row
  skip    : List Row
  marks   : List MarkEntry
  routesA : List Route
  routesB : List Route
  derateA : DerateTable
  derateB : DerateTable
  paramsA : Params
  paramsB : Params
  deriving DecidableEq, Repr

/-- The state of the shadow bank (R153). -/
inductive ShadowState where
  | empty | dirty | checking | valid | invalid
  deriving DecidableEq, Repr

/-- A set of conveyances (R63). -/
structure ConvSet where
  cage : Bool
  cwt  : Bool
  skip : Bool
  deriving DecidableEq, Repr

/-- A restriction entry (R63). -/
structure Restriction where
  valid : Bool
  base  : Depth
  k     : Nat
  cap   : Speed
  mask  : ConvSet
  deriving DecidableEq, Repr

/-- A pending correction (R39). -/
structure Correction where
  sign      : Int
  h         : Nat
  l         : Nat
  next      : Nat
  delivered : Int
  deriving DecidableEq, Repr

/-- The side from which an ARMED entry was approached (R27). -/
inductive Side where
  | shallow | deep
  deriving DecidableEq, Repr

/-- The arm state of a mark entry (R27). -/
inductive ArmState where
  | idle
  | armed (side : Side) (passed : Bool)
  deriving DecidableEq, Repr

/-- An input with its 200 µs filter (R24, R116, R140): the raw level, the filtered level and the time of
the candidate. A level is true for asserted, or for closed at a readback. -/
structure InputFilter where
  raw       : Bool
  filtered  : Bool
  candidate : Option Micros
  deriving DecidableEq, Repr

/-- A running timer: the moment it started and its timeout. -/
structure Countdown where
  since   : Micros
  timeout : Micros
  deriving DecidableEq, Repr

/-- The state of a readback monitor (R140). -/
inductive Monitor where
  | agree | waiting | reported
  deriving DecidableEq, Repr

/-- A beacon (R147). -/
inductive Beacon where
  | off | on | flashing
  deriving DecidableEq, Repr

/-- The reason of a CHECK offence (R161), numbered 0 to 8 in this order (R177). -/
inductive Reason where
  | noChannel | paramRange | paramAddress | profileLength | profileOrder | profileLimit
  | profileSpan | markRange | markKey
  deriving DecidableEq, Repr

/-- A CHECK offence (R161). -/
structure Offence where
  table  : Nat
  index  : Nat
  reason : Reason
  deriving DecidableEq, Repr

/-- Origin and source of a notice (R132). -/
inductive NoticeOrigin where
  | channel (c : Channel) (src : Source)
  | part (src : PartSource)
  deriving DecidableEq, Repr

/-- A notice (R132), but for its sequence number. -/
structure NoticeBody where
  origin   : NoticeOrigin
  cls      : EvClass
  injected : Bool
  conv     : Option Conveyance
  depth    : Option Depth
  speed    : Option Speed
  value    : Option Int
  offence  : Option Offence
  deriving DecidableEq, Repr

/-- A notice in the queue (R132, R133). -/
structure Notice where
  seq  : Nat
  body : NoticeBody
  deriving DecidableEq, Repr

/-- An event as a block hands it to the Event Router (R125): the channel, the source, and the notice
fields the raising rule hands. -/
structure Raised where
  chan     : Channel
  src      : Source
  injected : Bool
  conv     : Option Conveyance
  depth    : Option Depth
  speed    : Option Speed
  value    : Option Int
  deriving DecidableEq, Repr

/-- The overwind thresholds of a conveyance in BACKOUT (R56). -/
structure Thresholds where
  deep : Depth
  high : Depth
  deriving DecidableEq, Repr

/-- What the ENV records at entry into BACKOUT (R56, R57); direction none stands for NONE. `cwt` has a
meaning for channel A. -/
structure BackoutRec where
  prim : Thresholds
  cwt  : Thresholds
  dir  : Option Dir
  deriving DecidableEq, Repr

/-- A feedback frame handed over to the tracker or waiting in the evaluation place, with its arrival time
(R6, R32). -/
structure HeldFbk where
  frame   : LinkFrame
  arrival : Micros
  deriving DecidableEq, Repr

/-- A REF frame decided by the RSV and waiting for the downstream port (R89, R95, R98). `flags` is byte 3
of the payload; an originated frame takes its alive toggle at the grant. -/
structure RefItem where
  chan       : Channel
  dest       : Byte
  src        : Byte
  speed      : Speed
  control    : Byte
  flags      : Byte
  originated : Bool
  deriving DecidableEq, Repr

/-- A management request in the request queue (R175, R177). -/
structure Request where
  src    : Byte
  code   : Byte
  tag    : Byte
  params : List Byte
  deriving DecidableEq, Repr

/-- A frame waiting for, or under transmission on, the upstream port. `resets` marks the reply of an
accepted SOFT RESET (R181). -/
structure UpFrame where
  frame  : LinkFrame
  resets : Bool
  deriving DecidableEq, Repr

/-- The second reply of a CHECK in its place, with the number of waiting replies that are older (R171). -/
structure CheckReply where
  frame : LinkFrame
  older : Nat
  deriving DecidableEq, Repr

/-- A conveyance's record (R1), last judged depth (R27), profile limits (R49), conveyance permits (R61)
and in-barrier indication (R68). A field the conveyance lacks stays 0. -/
structure Conv where
  est         : Depth
  drumFine    : Int
  drumDepth   : Depth
  sheaveFine  : Int
  sheaveDepth : Depth
  corrTotal   : Depth
  payload     : Int
  stretch     : Depth
  correction  : Option Correction
  lastMark    : Option Nat
  lastJudged  : Option Depth
  profDown    : Speed
  profUp      : Speed
  permitDown  : Speed
  permitUp    : Speed
  inBarrier   : Bool
  deriving DecidableEq, Repr

/-- A channel's tracking context (R2), with v_meas, feedback valid and Confirmed of its records (R1), which
both records of channel A show alike. -/
structure Tracking where
  vMeas           : Speed
  feedbackValid   : Bool
  confirmed       : Bool
  rebasePending   : Bool
  lastDrumCount   : BitVec 32
  sheaveCounter   : BitVec 32
  lastSheaveCount : BitVec 32
  dDiv            : Depth
  dDivPrev        : Depth
  dBase           : Depth
  creepExcess     : Bool
  reportedPayload : Int
  c0              : Int
  c1              : Int
  c2              : Int
  c3              : Int
  gapTimer        : Option Countdown
  fbkLoss         : Bool
  lastArrival     : Micros
  deriving DecidableEq, Repr

/-- A channel's envelope state (R61, R59). -/
structure Envelope where
  pDown    : Speed
  pUp      : Speed
  ceilDown : Speed
  ceilUp   : Speed
  groups   : List Bool
  factor   : Int
  low0     : Bool
  low1     : Bool
  overDeep : Bool
  overHigh : Bool
  backout  : Option BackoutRec
  deriving DecidableEq, Repr

/-- A channel's reference context (R79). -/
structure RefContext where
  forwarded      : Speed
  lastAccepted   : Option Micros
  lastToggle     : Option Bool
  lastControl    : Byte
  lastController : Byte
  lastTxToggle   : Bool
  gapTimer       : Option Countdown
  linkLoss       : Bool
  lossCount      : Nat
  substituting   : Bool
  subTimer       : Option Countdown
  deriving DecidableEq, Repr

/-- A channel's trip line (R138 to R143): the command (true for CLOSED), the readback, its monitor and
window, the STUCK condition, and the window that expired when it became true. -/
structure TripLine where
  closed      : Bool
  readback    : InputFilter
  monitor     : Monitor
  window      : Option Countdown
  stuck       : Bool
  stuckWindow : Micros
  deriving DecidableEq, Repr

/-- Everything held for one channel. -/
structure Chan where
  state      : ChanState
  plane      : Nat
  permits    : List InputFilter
  permitLost : Bool
  flags      : List FlagState
  beacon     : Beacon
  underway   : Option HeldFbk
  place      : Option HeldFbk
  prim       : Conv
  cwt        : Conv
  ctr        : Tracking
  env        : Envelope
  rsv        : RefContext
  line       : TripLine
  deriving DecidableEq, Repr

end Sys2Proof.Machine
end

