-- ==== Sys2Proof/Machine/Tables.lean ====
section
/-! DEFINITION. The manual's constant tables: sources with their kinds, floors and default routes (R121,
R122), the initial contents of a bank (R150), the parameter indices, ranges (R151 and the chapters that
introduce each parameter), and the codes of enumerated fields (R177). -/

namespace Sys2Proof.Machine

/-- The other channel. -/
def otherChannel : Channel → Channel
  | .a => .b
  | .b => .a

/-- The channel a conveyance belongs to (R1). -/
def convChannel : Conveyance → Channel
  | .cage => .a
  | .cwt => .a
  | .skip => .b

/-- The primary conveyance of a channel (00_scope 6.2). -/
def primaryOf : Channel → Conveyance
  | .a => .cage
  | .b => .skip

/-- The conveyances of a channel, the primary first (R1). -/
def convsOf : Channel → List Conveyance
  | .a => [.cage, .cwt]
  | .b => [.skip]

/-- The moving states are RUN, STOPPING and BACKOUT (00_scope 6.6, R101). -/
def ChanState.moving : ChanState → Bool
  | .run => true
  | .stopping => true
  | .backout => true
  | .idle => false
  | .ready => false
  | .held => false
  | .tripped => false

/-- The opposite direction. -/
def Dir.opposite : Dir → Dir
  | .down => .up
  | .up => .down

/-- The number of a source (R121). -/
def Source.num : Source → Nat
  | .overspeed => 0
  | .overwindDeep => 1
  | .overwindHigh => 2
  | .barrierEntry => 3
  | .reverseMotion => 4
  | .ropeSlip => 5
  | .countJump => 6
  | .fbkLoss => 7
  | .extTrip => 8
  | .triplineStuck => 9
  | .creepExcess => 10
  | .markDisagree => 11
  | .markMissed => 12
  | .linkLoss => 13
  | .permitLost => 14
  | .lossLimit => 15
  | .markUnexpected => 16
  | .lowAlarm0 => 17
  | .lowAlarm1 => 18
  | .derateChange => 19
  | .refClamped => 20
  | .refBlocked => 21
  | .refEarly => 22
  | .refStale => 23

/-- The sources in the order of their numbers (R121). -/
def Source.all : List Source :=
  [.overspeed, .overwindDeep, .overwindHigh, .barrierEntry, .reverseMotion, .ropeSlip,
   .countJump, .fbkLoss, .extTrip, .triplineStuck, .creepExcess, .markDisagree, .markMissed,
   .linkLoss, .permitLost, .lossLimit, .markUnexpected, .lowAlarm0, .lowAlarm1, .derateChange,
   .refClamped, .refBlocked, .refEarly, .refStale]

/-- The source of a number (R121). -/
def Source.ofNum (n : Nat) : Option Source := Source.all[n]?

/-- Whether a source is a state source (R121); the others are occurrences. -/
def Source.isState : Source → Bool
  | .overwindDeep => true
  | .overwindHigh => true
  | .fbkLoss => true
  | .triplineStuck => true
  | .creepExcess => true
  | .linkLoss => true
  | .permitLost => true
  | .lowAlarm0 => true
  | .lowAlarm1 => true
  | _ => false

/-- The floor class of the source numbered `n` (R121): TRIP for 0 to 9, STOP for 10 to 15, NOTE above. -/
def floorClass (n : Nat) : EvClass :=
  if n < 10 then .trip else if n < 16 then .stop else .note

/-- The rank of a class, NOTE lowest (R121). -/
def EvClass.rank : EvClass → Nat
  | .note => 0
  | .stop => 1
  | .trip => 2

/-- A class raised to a floor (R104, R123). -/
def EvClass.raisedTo (c floor : EvClass) : EvClass :=
  if c.rank < floor.rank then floor else c

/-- The default route of the source numbered `n` (R122). -/
def defaultRoute (n : Nat) : Route :=
  if n < 9 then ⟨.trip, .latch, .own, true⟩
  else if n = 9 then ⟨.trip, .latch, .both, true⟩
  else if n < 13 then ⟨.stop, .latch, .own, true⟩
  else if n < 15 then ⟨.stop, .follow, .own, true⟩
  else if n < 17 then ⟨.stop, .latch, .own, true⟩
  else if n = 17 then ⟨.trip, .latch, .own, true⟩
  else if n = 18 then ⟨.stop, .follow, .own, true⟩
  else if n = 20 then ⟨.note, .latch, .own, false⟩
  else ⟨.note, .latch, .own, true⟩

/-- The default routing table of a channel (R122). -/
def defaultRoutes : List Route := (List.range 24).map defaultRoute

/-- A mark entry that is not valid, every other field 0 (R150, R158). -/
def MarkEntry.invalid : MarkEntry := ⟨false, 0, .cage, 0, 0, .down⟩

/-- The initial derate group (R150). -/
def DerateGroup.initial : DerateGroup := ⟨false, 0, 0, 0, 8⟩

/-- The initial low alarm group (R150). -/
def LowAlarm.initial : LowAlarm := ⟨false, 0, 0⟩

/-- The initial derate table (R150). -/
def DerateTable.initial : DerateTable :=
  ⟨List.replicate 4 DerateGroup.initial, LowAlarm.initial, LowAlarm.initial⟩

/-- The initial depth parameters (R150). -/
def ConvParams.initial : ConvParams := ⟨0, 0, 0⟩

/-- The initial parameter record: every parameter 0, NO, NORMAL or empty (R150). -/
def Params.initial : Params where
  inUse := false
  driveAddr := 0
  tNom := 0
  f := 0
  vMax := 0
  vRest := 0
  sD := 0
  drumDir := .normal
  datum := 0
  sS := 0
  sheaveDir := .normal
  lBal := 0
  creepLim := 0
  slipStep := 0
  k := 0
  prim := ConvParams.initial
  cwt := ConvParams.initial
  clearance := 0
  vUnconf := 0
  vCreep := 0
  tCeil := 0
  mAbs := 0
  aStop := 0
  aTrip := 0
  g := 0
  tLong := 0
  permitEn := 0
  tRb := 0

/-- The initial content of a bank (R150). -/
def Bank.initial : Bank where
  cage := []
  cwt := []
  skip := []
  marks := List.replicate 32 MarkEntry.invalid
  routesA := defaultRoutes
  routesB := defaultRoutes
  derateA := DerateTable.initial
  derateB := DerateTable.initial
  paramsA := Params.initial
  paramsB := Params.initial

/-- The parameter record of a channel in a bank (R150, tables 8 and 9). -/
def Bank.params (b : Bank) : Channel → Params
  | .a => b.paramsA
  | .b => b.paramsB

/-- The routing table of a channel in a bank (R150, tables 4 and 5). -/
def Bank.routes (b : Bank) : Channel → List Route
  | .a => b.routesA
  | .b => b.routesB

/-- The derate table of a channel in a bank (R150, tables 6 and 7). -/
def Bank.derate (b : Bank) : Channel → DerateTable
  | .a => b.derateA
  | .b => b.derateB

/-- The profile of a conveyance in a bank (R44, R150, tables 0 to 2). -/
def Bank.profile (b : Bank) : Conveyance → List Row
  | .cage => b.cage
  | .cwt => b.cwt
  | .skip => b.skip

/-- A bank with the profile of a conveyance replaced. -/
def Bank.setProfile (b : Bank) (v : Conveyance) (rows : List Row) : Bank :=
  match v with
  | .cage => { b with cage := rows }
  | .cwt => { b with cwt := rows }
  | .skip => { b with skip := rows }

/-- A bank with a channel's parameter record replaced. -/
def Bank.setParams (b : Bank) (c : Channel) (p : Params) : Bank :=
  match c with
  | .a => { b with paramsA := p }
  | .b => { b with paramsB := p }

/-- The depth parameters of a conveyance (R52): the CAGE and CWT parameters stand in channel A's record,
the SKIP parameters in channel B's. -/
def Bank.convParams (b : Bank) : Conveyance → ConvParams
  | .cage => b.paramsA.prim
  | .cwt => b.paramsA.cwt
  | .skip => b.paramsB.prim

/-- Whether a channel is in use in a bank (R3). -/
def Bank.inUse (b : Bank) (c : Channel) : Bool := (b.params c).inUse

/-- Whether a conveyance's channel is in use in a bank. -/
def Bank.convInUse (b : Bank) (v : Conveyance) : Bool := b.inUse (convChannel v)

/-- The sign of an encoder direction (R3). -/
def EncDir.sign : EncDir → Int
  | .normal => 1
  | .reversed => -1

/-- The limits of a row in a duty plane (R43). -/
def Row.limits (r : Row) (plane : Nat) : Limits :=
  if plane = 0 then r.plane0 else if plane = 1 then r.plane1 else if plane = 2 then r.plane2 else r.plane3

/-- A limit of a pair. -/
def Limits.get (l : Limits) : Dir → Speed
  | .down => l.down
  | .up => l.up

/-- A row given plane by plane. -/
def Row.build (depth : Depth) (limits : Nat → Limits) : Row :=
  ⟨depth, limits 0, limits 1, limits 2, limits 3⟩

/-- The row whose every field is 0 (R154, R155). -/
def Row.zero : Row := Row.build 0 fun _ => ⟨0, 0⟩

/-- A restriction entry that is not valid holds 0 in every other field (R63). -/
def Restriction.invalid : Restriction := ⟨false, 0, 0, 0, ⟨false, false, false⟩⟩

/-- Membership of a set of conveyances. -/
def ConvSet.has (m : ConvSet) : Conveyance → Bool
  | .cage => m.cage
  | .cwt => m.cwt
  | .skip => m.skip

/-- Whether a set of conveyances holds none (R63). -/
def ConvSet.isEmpty (m : ConvSet) : Bool := !m.cage && !m.cwt && !m.skip

/-- Whether `m` contains every conveyance of `n` (R66). -/
def ConvSet.contains (m n : ConvSet) : Bool :=
  (!n.cage || m.cage) && (!n.cwt || m.cwt) && (!n.skip || m.skip)

/-- Whether a parameter exists for a channel (R151): 9 to 13 and 18 to 20 are channel A's only, 14 is
channel B's only. -/
def paramExists (c : Channel) (i : Nat) : Bool :=
  i < 32 &&
  match c with
  | .a => i != 14
  | .b => !((9 ≤ i && i ≤ 13) || (18 ≤ i && i ≤ 20))

/-- A yes-or-no parameter as its code (R177). -/
def boolCode (b : Bool) : Int := if b then 1 else 0

/-- A direction parameter as its code (R177). -/
def EncDir.code : EncDir → Int
  | .normal => 0
  | .reversed => 1

/-- The direction of a code (R177). -/
def encDirOf (v : Int) : EncDir := if v = 0 then .normal else .reversed

/-- The parameter at an index, as a number (R151, R177). -/
def Params.get (p : Params) (i : Nat) : Int :=
  match i with
  | 0 => boolCode p.inUse
  | 1 => p.driveAddr
  | 2 => p.tNom
  | 3 => p.f
  | 4 => p.vMax
  | 5 => p.vRest
  | 6 => p.sD
  | 7 => p.drumDir.code
  | 8 => p.datum
  | 9 => p.sS
  | 10 => p.sheaveDir.code
  | 11 => p.lBal
  | 12 => p.creepLim
  | 13 => p.slipStep
  | 14 => p.k
  | 15 => p.prim.top
  | 16 => p.prim.bottom
  | 17 => p.prim.home
  | 18 => p.cwt.top
  | 19 => p.cwt.bottom
  | 20 => p.cwt.home
  | 21 => p.clearance
  | 22 => p.vUnconf
  | 23 => p.vCreep
  | 24 => p.tCeil
  | 25 => p.mAbs
  | 26 => p.aStop
  | 27 => p.aTrip
  | 28 => p.g
  | 29 => p.tLong
  | 30 => (p.permitEn.toNat : Int)
  | 31 => p.tRb
  | _ => 0

/-- The record with the parameter at an index replaced (R151, R158). -/
def Params.set (p : Params) (i : Nat) (v : Int) : Params :=
  match i with
  | 0 => { p with inUse := v != 0 }
  | 1 => { p with driveAddr := v }
  | 2 => { p with tNom := v }
  | 3 => { p with f := v }
  | 4 => { p with vMax := v }
  | 5 => { p with vRest := v }
  | 6 => { p with sD := v }
  | 7 => { p with drumDir := encDirOf v }
  | 8 => { p with datum := v }
  | 9 => { p with sS := v }
  | 10 => { p with sheaveDir := encDirOf v }
  | 11 => { p with lBal := v }
  | 12 => { p with creepLim := v }
  | 13 => { p with slipStep := v }
  | 14 => { p with k := v }
  | 15 => { p with prim := { p.prim with top := v } }
  | 16 => { p with prim := { p.prim with bottom := v } }
  | 17 => { p with prim := { p.prim with home := v } }
  | 18 => { p with cwt := { p.cwt with top := v } }
  | 19 => { p with cwt := { p.cwt with bottom := v } }
  | 20 => { p with cwt := { p.cwt with home := v } }
  | 21 => { p with clearance := v }
  | 22 => { p with vUnconf := v }
  | 23 => { p with vCreep := v }
  | 24 => { p with tCeil := v }
  | 25 => { p with mAbs := v }
  | 26 => { p with aStop := v }
  | 27 => { p with aTrip := v }
  | 28 => { p with g := v }
  | 29 => { p with tLong := v }
  | 30 => { p with permitEn := BitVec.ofInt 8 v }
  | 31 => { p with tRb := v }
  | _ => p

/-- The accepted range of the parameter at an index, a bound that is another parameter being taken at its
widest (R158, with R3, R52, R60, R78, R115, R139). -/
def paramRange (i : Nat) : Int × Int :=
  match i with
  | 0 => (0, 1)
  | 1 => (0, 255)
  | 2 => (1000, 20000)
  | 3 => (2, 8)
  | 4 => (1, 20000)
  | 5 => (0, 1000)
  | 6 => (1, 1048576)
  | 7 => (0, 1)
  | 8 => (0, 4294967295)
  | 9 => (1, 1048576)
  | 10 => (0, 1)
  | 11 => (0, 4200000)
  | 12 => (1, 100000)
  | 13 => (1, 10000)
  | 14 => (0, 65535)
  | 15 => (-29999, 4199998)
  | 16 => (-29998, 4199999)
  | 17 => (-29999, 4199999)
  | 18 => (-29999, 4199998)
  | 19 => (-29998, 4199999)
  | 20 => (-29999, 4199999)
  | 21 => (1, 100000)
  | 22 => (1, 20000)
  | 23 => (1, 20000)
  | 24 => (0, 15)
  | 25 => (0, 1000)
  | 26 => (1, 20000)
  | 27 => (1, 20000)
  | 28 => (2, 8)
  | 29 => (100, 5000)
  | 30 => (0, 255)
  | 31 => (10, 200)
  | _ => (0, -1)

/-- Whether a number lies in a range, ends included. -/
def inRange (r : Int × Int) (v : Int) : Bool := r.1 ≤ v && v ≤ r.2

/-- The code of a channel state (R177, byte 17). -/
def ChanState.code : ChanState → Nat
  | .idle => 0
  | .ready => 1
  | .run => 2
  | .stopping => 3
  | .held => 4
  | .tripped => 5
  | .backout => 6

/-- The code of a conveyance (R177). -/
def Conveyance.code : Conveyance → Nat
  | .cage => 0
  | .cwt => 1
  | .skip => 2

/-- The conveyance of a code (R177). -/
def convOfCode (n : Nat) : Option Conveyance :=
  if n = 0 then some .cage else if n = 1 then some .cwt else if n = 2 then some .skip else none

/-- The channel of a code (R177). -/
def channelOfCode (n : Nat) : Option Channel :=
  if n = 0 then some .a else if n = 1 then some .b else none

/-- The code of a shadow bank state (R177). -/
def ShadowState.code : ShadowState → Nat
  | .empty => 0
  | .dirty => 1
  | .checking => 2
  | .valid => 3
  | .invalid => 4

/-- The code of a flag state in STATUS (R178). -/
def FlagState.code : FlagState → Nat
  | .clear => 0
  | .following => 1
  | .latched => 2

/-- The code of an offence's reason (R177). -/
def Reason.code : Reason → Nat
  | .noChannel => 0
  | .paramRange => 1
  | .paramAddress => 2
  | .profileLength => 3
  | .profileOrder => 4
  | .profileLimit => 5
  | .profileSpan => 6
  | .markRange => 7
  | .markKey => 8

/-- The code of a mark direction (R177). -/
def MarkDir.code : MarkDir → Nat
  | .down => 0
  | .up => 1
  | .both => 2

/-- The number of a PART source (R132). -/
def PartSource.num : PartSource → Nat
  | .commitDone => 24
  | .commitCancelled => 25
  | .checkDone => 26

end Sys2Proof.Machine
end

