-- ==== Sys2Proof/Machine/State.lean ====
section
/-! DEFINITION. The state of the part as plain data, the machine right after reset, and the named reads
and updates of a channel's and a conveyance's share of it. -/

namespace Sys2Proof.Machine

/-- No rule of the manual stops the part: no command ends in a fault, and this type has no constructor
(safe: there is nothing to raise). -/
inductive Fault where
  deriving DecidableEq, Repr

/-- Reasons for which a command has no meaning in the model. -/
inductive Refusal where
  /-- Raised by an arm of `exec` for a command not yet modelled; safe, since nothing is then claimed of
  it. No arm of this model raises it. -/
  | notModelled (mnemonic : String)
  deriving DecidableEq, Repr

/-- The state of the part. Each field's rule and reset value stand in INVENTORY.md under State. -/
structure State where
  now           : Micros
  powerReset    : Bool
  inputReset    : Bool
  softReset     : Option Micros
  linkAddr      : Byte
  phase1        : Bool
  phase2        : Bool
  markFilters   : List InputFilter
  chA           : Chan
  chB           : Chan
  arms          : List ArmState
  restrictions  : List Restriction
  notices       : List Notice
  seq           : Nat
  noticesLost   : Bool
  activeLoaded  : Bool
  active        : Bank
  shadowState   : ShadowState
  shadow        : Bank
  editLatch     : Row
  pendingCommit : Bool
  checkJob      : Option (Byte × Byte)
  masterClosed  : Bool
  holdOn        : Bool
  holdHigh      : Bool
  holdSince     : Micros
  flashOn       : Bool
  flashLit      : Bool
  flashSince    : Micros
  requests      : List Request
  replies       : List UpFrame
  checkReply    : Option CheckReply
  fbkOut        : List LinkFrame
  passUp        : List LinkFrame
  passDown      : List LinkFrame
  refQueue      : List RefItem
  upTx          : Option UpFrame
  downTx        : Option LinkFrame
  errUp         : Nat
  errDown       : Nat
  ovUp          : Nat
  ovDown        : Nat
  raised        : List Raised
  choices       : Nat
  pending       : List Instr
  deriving DecidableEq, Repr

/-- A filter sampled at a raw level, with no candidate (R24, R116, R140). -/
def InputFilter.sampled (level : Bool) : InputFilter := ⟨level, level, none⟩

/-- A conveyance's record and envelope after reset (R1, R27, R49, R61). -/
def Conv.reset : Conv where
  est := 0
  drumFine := 0
  drumDepth := 0
  sheaveFine := 0
  sheaveDepth := 0
  corrTotal := 0
  payload := 0
  stretch := 0
  correction := none
  lastMark := none
  lastJudged := none
  profDown := 0
  profUp := 0
  permitDown := 0
  permitUp := 0
  inBarrier := false

/-- A tracking context after reset (R1, R2; `lastArrival`: log 31). -/
def Tracking.reset : Tracking where
  vMeas := 0
  feedbackValid := false
  confirmed := false
  rebasePending := true
  lastDrumCount := 0
  sheaveCounter := 0
  lastSheaveCount := 0
  dDiv := 0
  dDivPrev := 0
  dBase := 0
  creepExcess := false
  reportedPayload := 0
  c0 := 0
  c1 := 0
  c2 := 0
  c3 := 0
  gapTimer := none
  fbkLoss := false
  lastArrival := 0

/-- An envelope state after reset (R61, R59). -/
def Envelope.reset : Envelope where
  pDown := 0
  pUp := 0
  ceilDown := 0
  ceilUp := 0
  groups := List.replicate 4 false
  factor := 8
  low0 := false
  low1 := false
  overDeep := false
  overHigh := false
  backout := none

/-- A reference context after reset (R79). -/
def RefContext.reset : RefContext where
  forwarded := 0
  lastAccepted := none
  lastToggle := none
  lastControl := 0
  lastController := 0
  lastTxToggle := false
  gapTimer := none
  linkLoss := false
  lossCount := 0
  substituting := false
  subTimer := none

/-- A trip line after reset, its readback showing `closed` (R148; `stuckWindow`: log 21). -/
def TripLine.reset (closed : Bool) : TripLine where
  closed := false
  readback := InputFilter.sampled closed
  monitor := .agree
  window := none
  stuck := false
  stuckWindow := 0

/-- A channel after reset (R101, R120, R137, R148), its permit inputs showing `permits` and its readback
`readback`. -/
def Chan.reset (permits : List Bool) (readback : Bool) : Chan where
  state := .idle
  plane := 0
  permits := permits.map InputFilter.sampled
  permitLost := false
  flags := List.replicate 24 .clear
  beacon := .off
  underway := none
  place := none
  prim := Conv.reset
  cwt := Conv.reset
  ctr := Tracking.reset
  env := Envelope.reset
  rsv := RefContext.reset
  line := TripLine.reset readback

/-- The machine right after reset (R182 and the reset values of every block). The pins show deasserted
marks and permits, open readbacks, both quadrature phases low and straps 0 (log 27). -/
def State.reset : State where
  now := 0
  powerReset := false
  inputReset := false
  softReset := none
  linkAddr := 0x40
  phase1 := false
  phase2 := false
  markFilters := List.replicate 16 (InputFilter.sampled false)
  chA := Chan.reset (List.replicate 8 false) false
  chB := Chan.reset (List.replicate 8 false) false
  arms := List.replicate 32 .idle
  restrictions := List.replicate 8 Restriction.invalid
  notices := []
  seq := 0
  noticesLost := false
  activeLoaded := false
  active := Bank.initial
  shadowState := .empty
  shadow := Bank.initial
  editLatch := Row.zero
  pendingCommit := false
  checkJob := none
  masterClosed := true
  holdOn := true
  holdHigh := true
  holdSince := 0
  flashOn := true
  flashLit := true
  flashSince := 0
  requests := []
  replies := []
  checkReply := none
  fbkOut := []
  passUp := []
  passDown := []
  refQueue := []
  upTx := none
  downTx := none
  errUp := 0
  errDown := 0
  ovUp := 0
  ovDown := 0
  raised := []
  choices := 0
  pending := []

/-- What is held for a channel. -/
def State.ch (s : State) : Channel → Chan
  | .a => s.chA
  | .b => s.chB

/-- The state with what is held for a channel changed. -/
def State.updCh (s : State) (c : Channel) (f : Chan → Chan) : State :=
  match c with
  | .a => { s with chA := f s.chA }
  | .b => { s with chB := f s.chB }

/-- A conveyance's record and envelope. -/
def State.conv (s : State) : Conveyance → Conv
  | .cage => s.chA.prim
  | .cwt => s.chA.cwt
  | .skip => s.chB.prim

/-- The state with a conveyance's record and envelope changed. -/
def State.updConv (s : State) (v : Conveyance) (f : Conv → Conv) : State :=
  match v with
  | .cage => s.updCh .a fun x => { x with prim := f x.prim }
  | .cwt => s.updCh .a fun x => { x with cwt := f x.cwt }
  | .skip => s.updCh .b fun x => { x with prim := f x.prim }

/-- The parameter record of a channel in the active bank (00_scope 6.9). -/
def State.params (s : State) (c : Channel) : Params := s.active.params c

/-- The part is in reset while any of the three resets holds it (R182, log 29). -/
def State.inReset (s : State) : Bool := s.powerReset || s.inputReset || s.softReset.isSome

end Sys2Proof.Machine
end

