-- ==== Sys2Proof/Machine/Wire.lean ====
section
/-! DEFINITION. The formats of the winder link: the CRC (R169), frames as bytes (R168), fields most
significant byte first, the REF and FBK payloads, and notices (R177). -/

namespace Sys2Proof.Machine

/-- One bit of the CRC of R169, polynomial x^16 + x^12 + x^5 + 1. -/
def crcShift (c : BitVec 16) : BitVec 16 :=
  if c.msb then (c <<< 1) ^^^ 0x1021 else c <<< 1

/-- The CRC taken over one more byte, most significant bit first (R169). -/
def crcByte (c : BitVec 16) (b : Byte) : BitVec 16 :=
  crcShift (crcShift (crcShift (crcShift (crcShift (crcShift (crcShift (crcShift
    (c ^^^ (b.zeroExtend 16 <<< 8)))))))))

/-- The CRC check value over a run of bytes, from the initial value 0xFFFF (R169). -/
def crc16 (bytes : List Byte) : BitVec 16 := bytes.foldl crcByte 0xFFFF

/-- Two bytes, most significant first (R168). -/
def bytes16 (v : BitVec 16) : List Byte := [v.extractLsb' 8 8, v.extractLsb' 0 8]

/-- Four bytes, most significant first (R168). -/
def bytes32 (v : BitVec 32) : List Byte :=
  [v.extractLsb' 24 8, v.extractLsb' 16 8, v.extractLsb' 8 8, v.extractLsb' 0 8]

/-- A number as an unsigned field of `w` bits; one that does not fit is free (log 18). -/
def unsignedField (w : Nat) (x : Int) : BitVec w :=
  if 0 ≤ x ∧ x < 2 ^ w then BitVec.ofInt w x else Config.unfit w x

/-- A number as a two's complement field of `w` bits (R168); one that does not fit is free (log 18). -/
def signedField (w : Nat) (x : Int) : BitVec w :=
  if -(2 ^ (w - 1)) ≤ x ∧ x < 2 ^ (w - 1) then BitVec.ofInt w x else Config.unfit w x

/-- A one-byte field (R177). -/
def fieldU8 (x : Int) : List Byte := [unsignedField 8 x]
/-- A one-byte signed field (R177, log 15). -/
def fieldS8 (x : Int) : List Byte := [signedField 8 x]
/-- A two-byte unsigned field (R177). -/
def fieldU16 (x : Int) : List Byte := bytes16 (unsignedField 16 x)
/-- A two-byte signed field: a speed or a limit (R177). -/
def fieldS16 (x : Int) : List Byte := bytes16 (signedField 16 x)
/-- A four-byte unsigned field: a quantity (R177). -/
def fieldU32 (x : Int) : List Byte := bytes32 (unsignedField 32 x)
/-- A four-byte signed field: a depth (R177). -/
def fieldS32 (x : Int) : List Byte := bytes32 (signedField 32 x)
/-- A yes-or-no field (R177). -/
def fieldBool (b : Bool) : List Byte := fieldU8 (boolCode b)

/-- A byte as bits, bit n set when the n-th of a list of up to 8 members is present (R177). -/
def setBits : List Bool → Nat
  | [] => 0
  | b :: rest => (if b then 1 else 0) + 2 * setBits rest

/-- The bytes of a frame before its CRC (R168). -/
def frameHead (f : LinkFrame) : List Byte :=
  f.dest :: f.src :: f.kind :: BitVec.ofNat 8 f.payload.length :: f.payload

/-- A frame as it stands on the line (R168, R169). -/
def frameBytes (f : LinkFrame) : List Byte := frameHead f ++ bytes16 (crc16 (frameHead f))

/-- The frame a run of bytes spells, by the first four tests of R169: at least 6 bytes, LEN at most 60, as
many bytes as LEN + 6, and a right CRC. -/
def parseFrame (bytes : List Byte) : Option LinkFrame :=
  match bytes with
  | dest :: src :: kind :: len :: rest =>
    let payload := rest.take len.toNat
    let head := dest :: src :: kind :: len :: payload
    if len.toNat ≤ 60 ∧ rest.length = len.toNat + 2
        ∧ rest.drop len.toNat = bytes16 (crc16 head) then
      some ⟨dest, src, kind, payload⟩
    else none
  | _ => none

/-- Two bytes as a 16-bit number (R168). -/
def read16 (hi lo : Byte) : BitVec 16 := hi ++ lo

/-- Four bytes as a 32-bit number (R168). -/
def read32 (b3 b2 b1 b0 : Byte) : BitVec 32 := b3 ++ b2 ++ b1 ++ b0

/-- The byte at an index of a payload. -/
def byteAt (bytes : List Byte) (i : Nat) : Byte := bytes.getD i 0

/-- The unsigned 16-bit field at an index of a payload (R177). -/
def u16At (bytes : List Byte) (i : Nat) : Int :=
  ((read16 (byteAt bytes i) (byteAt bytes (i + 1))).toNat : Int)

/-- The signed 16-bit field at an index of a payload (R177). -/
def s16At (bytes : List Byte) (i : Nat) : Int :=
  (read16 (byteAt bytes i) (byteAt bytes (i + 1))).toInt

/-- The 32-bit field at an index of a payload (R177). -/
def w32At (bytes : List Byte) (i : Nat) : BitVec 32 :=
  read32 (byteAt bytes i) (byteAt bytes (i + 1)) (byteAt bytes (i + 2)) (byteAt bytes (i + 3))

/-- The requested speed of a REF payload (R177). -/
def refSpeed (f : LinkFrame) : Speed := s16At f.payload 0
/-- The control byte of a REF payload (R177). -/
def refControl (f : LinkFrame) : Byte := byteAt f.payload 2
/-- The flags byte of a REF payload: bit 0 alive toggle, bit 1 substitute flag (R177). -/
def refFlags (f : LinkFrame) : Byte := byteAt f.payload 3
/-- The alive toggle of a REF payload (R177). -/
def refToggle (f : LinkFrame) : Bool := (refFlags f).getLsbD 0

/-- The drum count of an FBK payload (R177). -/
def fbkDrumCount (f : LinkFrame) : BitVec 32 := w32At f.payload 0
/-- The rope speed of an FBK payload, in the drive's own sense (R177). -/
def fbkRopeSpeed (f : LinkFrame) : Int := s16At f.payload 4
/-- The payload field of an FBK payload, kg (R177). -/
def fbkPayload (f : LinkFrame) : Int := u16At f.payload 6
/-- The condition input C_n of an FBK payload (R177). -/
def fbkInput (f : LinkFrame) (n : Nat) : Int := u16At f.payload (8 + 2 * n)

/-- The payload of a REF frame (R177). -/
def refPayload (speed : Speed) (control flags : Byte) : List Byte :=
  fieldS16 speed ++ [control, flags]

/-- The origin byte of a notice (R177): 0 A, 1 B, 2 PART. -/
def originCode : NoticeOrigin → Nat
  | .channel .a _ => 0
  | .channel .b _ => 1
  | .part _ => 2

/-- The source byte of a notice (R177). -/
def sourceCode : NoticeOrigin → Nat
  | .channel _ src => src.num
  | .part src => src.num

/-- A conveyance byte of a notice, 0 when absent (R177). -/
def convByte : Option Conveyance → Nat
  | some v => v.code
  | none => 0

/-- The offence bytes of a notice or of a CHECK's second reply: table, index, reason (R177). -/
def offenceBytes (o : Offence) : List Byte := fieldU8 o.table ++ fieldU8 o.index ++ fieldU8 o.reason.code

/-- The bytes of a notice, from byte 41 of an annotated frame (R177): 16 bytes, or 19 with an offence. -/
def noticeBytes (n : Notice) : List Byte :=
  let b := n.body
  fieldU8 n.seq ++ fieldU8 (originCode b.origin) ++ fieldU8 (sourceCode b.origin)
    ++ fieldU8 b.cls.rank
    ++ fieldU8 (setBits [b.injected, b.conv.isSome, b.depth.isSome, b.speed.isSome,
                         b.value.isSome, b.offence.isSome])
    ++ fieldU8 (convByte b.conv) ++ fieldS32 (b.depth.getD 0) ++ fieldS16 (b.speed.getD 0)
    ++ fieldS32 (b.value.getD 0)
    ++ (match b.offence with | some o => offenceBytes o | none => [])

/-- An entry of a profile row as data: the depth, then DOWN and UP of planes 0 to 3 (R177). -/
def rowBytes (r : Row) : List Byte :=
  fieldS32 r.depth ++ fieldS16 r.plane0.down ++ fieldS16 r.plane0.up
    ++ fieldS16 r.plane1.down ++ fieldS16 r.plane1.up
    ++ fieldS16 r.plane2.down ++ fieldS16 r.plane2.up
    ++ fieldS16 r.plane3.down ++ fieldS16 r.plane3.up

/-- A set of conveyances as a byte (R177). -/
def maskBits (m : ConvSet) : Nat := setBits [m.cage, m.cwt, m.skip]

/-- A restriction entry as data (R63, R177, R180). -/
def restrictionBytes (r : Restriction) : List Byte :=
  fieldBool r.valid ++ fieldS32 r.base ++ fieldU32 r.k ++ fieldS16 r.cap ++ fieldU8 (maskBits r.mask)

/-- A mark entry as data (R26, R177, log 14). The line takes one byte: the model's choice (log 47). -/
def markBytes (e : MarkEntry) : List Byte :=
  fieldBool e.valid ++ fieldU8 e.line ++ fieldU8 e.conv.code ++ fieldS32 e.depth ++ fieldU32 e.tol
    ++ fieldU8 e.dir.code

/-- A route entry as data (R122, R177). -/
def routeBytes (r : Route) : List Byte :=
  fieldU8 r.cls.rank
    ++ fieldU8 (match r.latch with | .follow => 0 | .latch => 1)
    ++ fieldU8 (match r.scope with | .own => 0 | .both => 1)
    ++ fieldBool r.notify

/-- A derate group as data (R69, R177, log 14). The select takes one byte: the model's choice (log 47). -/
def derateBytes (g : DerateGroup) : List Byte :=
  fieldBool g.enable ++ fieldU8 g.select ++ fieldU32 g.gate ++ fieldU32 g.release ++ fieldU32 g.k

/-- A low alarm group as data (R71, R177, log 14). The select takes one byte: the model's choice (log 47). -/
def alarmBytes (g : LowAlarm) : List Byte :=
  fieldBool g.enable ++ fieldU8 g.select ++ fieldU32 g.gate

/-- The kinds of parameter by the width of their field (R177, log 14). -/
inductive ParamKind where
  /-- in_use, drive_addr, the directions and permit_enable: one byte. -/
  | byte
  /-- A speed, m_abs among them: two bytes, signed. -/
  | speed
  /-- A depth: four bytes, signed. -/
  | depth
  /-- Any other quantity: four bytes, unsigned. -/
  | quantity
  deriving DecidableEq, Repr

/-- The kind of the parameter at an index (R151, R177, log 14). -/
def paramKind (i : Nat) : ParamKind :=
  if i = 0 ∨ i = 1 ∨ i = 7 ∨ i = 10 ∨ i = 30 then .byte
  else if i = 4 ∨ i = 5 ∨ i = 22 ∨ i = 23 ∨ i = 25 then .speed
  else if 15 ≤ i ∧ i ≤ 20 then .depth
  else .quantity

/-- A parameter as data (R177). -/
def paramBytes (i : Nat) (v : Int) : List Byte :=
  match paramKind i with
  | .byte => fieldU8 v
  | .speed => fieldS16 v
  | .depth => fieldS32 v
  | .quantity => fieldU32 v

end Sys2Proof.Machine
end

