-- ==== Sys2Proof/Machine/Operands.lean ====
section
/-! DEFINITION. The operand forms of the part's own inputs: a management request read from its parameter
bytes (R175, R177), and the entries an ENTRY WRITE carries. A number whose range a rule judges is kept as it
was sent; a request with a wrong length or a meaningless enumeration is no request (BAD_REQUEST). -/

namespace Sys2Proof.Machine

/-- The operation of an edit (R155). -/
inductive EditOp where
  | replace | lower | raise | shift
  deriving DecidableEq, Repr

/-- The operation of a code (R177). -/
def editOpOf (n : Nat) : Option EditOp :=
  if n = 0 then some .replace else if n = 1 then some .lower
  else if n = 2 then some .raise else if n = 3 then some .shift else none

/-- An edit (R155). `pairs` holds four DOWN and UP pairs under EACH and one under SAME; the two sets are the
bytes sent. -/
structure Edit where
  profile : Nat
  index   : Nat
  op      : EditOp
  same    : Bool
  planes  : Nat
  mask    : Nat
  depth   : Int
  pairs   : List Limits
  deriving DecidableEq, Repr

/-- What a ROW FIND names (R157). -/
structure FindQuery where
  shadow  : Bool
  profile : Nat
  start   : Nat
  compare : Row
  mask    : Nat
  planes  : Nat
  deriving DecidableEq, Repr

/-- The fields of a RESTRICT WRITE's entry as sent (R63, R65). -/
structure RestrictFields where
  valid : Bool
  base  : Int
  k     : Nat
  cap   : Int
  mask  : Nat
  deriving DecidableEq, Repr

/-- A management request (R174) with its parameters. -/
inductive Req where
  | status
  | conveyanceRead (conv : Nat)
  | rowRead (shadow : Bool) (profile index : Nat)
  | rowWrite (e : Edit)
  | rowInsert (e : Edit)
  | rowDelete (profile index : Nat)
  | rowFind (q : FindQuery)
  | entryRead (shadow : Bool) (table index : Nat)
  | entryWrite (table index : Nat) (entry : List Byte)
  | restrictRead (index : Nat)
  | restrictWrite (index : Nat) (r : RestrictFields)
  | bankCopy
  | bankCheck
  | bankCommit
  | commitCancel
  | duty (chan plane : Nat)
  | clear (chan : Nat)
  | backout (chan : Nat)
  | eventInject (chan src : Nat)
  | softReset
  deriving DecidableEq, Repr

/-- The one-byte field at an index of a run of bytes (R177). -/
def u8At (bytes : List Byte) (i : Nat) : Nat := (byteAt bytes i).toNat

/-- The signed 32-bit field at an index (R177). -/
def s32At (bytes : List Byte) (i : Nat) : Int := (w32At bytes i).toInt

/-- The unsigned 32-bit field at an index (R177). -/
def u32At (bytes : List Byte) (i : Nat) : Nat := (w32At bytes i).toNat

/-- Membership of a set sent as a byte (R177). -/
def inSet (set n : Nat) : Bool := set.testBit n

/-- The DOWN and UP pair at an index (R177). -/
def pairAt (bytes : List Byte) (i : Nat) : Limits := ⟨s16At bytes i, s16At bytes (i + 2)⟩

/-- The bank of a code (R177): true for SHADOW. -/
def bankOf (n : Nat) : Option Bool :=
  if n = 0 then some false else if n = 1 then some true else none

/-- A yes-or-no field of a code (R177). -/
def yesNoOf (n : Nat) : Option Bool :=
  if n = 0 then some false else if n = 1 then some true else none

/-- The edit of a ROW WRITE or a ROW INSERT (R177). -/
def decodeEdit (ps : List Byte) : Option Edit :=
  match editOpOf (u8At ps 2), yesNoOf (u8At ps 3) with
  | some op, some same =>
    if ps.length = (if same then 14 else 26) then
      some { profile := u8At ps 0, index := u8At ps 1, op := op, same := same,
             planes := u8At ps 4, mask := u8At ps 5, depth := s32At ps 6,
             pairs := if same then [pairAt ps 10]
                      else [pairAt ps 10, pairAt ps 14, pairAt ps 18, pairAt ps 22] }
    else none
  | _, _ => none

/-- The query of a ROW FIND (R177). -/
def decodeFind (ps : List Byte) : Option FindQuery :=
  match bankOf (u8At ps 0) with
  | some sh =>
    if ps.length = 25 then
      some { shadow := sh, profile := u8At ps 1, start := u8At ps 2,
             compare := ⟨s32At ps 3, pairAt ps 7, pairAt ps 11, pairAt ps 15, pairAt ps 19⟩,
             mask := u8At ps 23, planes := u8At ps 24 }
    else none
  | none => none

/-- The number of entries of a table 3 to 9 (R150); none for another table. -/
def tableSize (table : Nat) : Option Nat :=
  if table = 3 then some 32 else if table = 4 ∨ table = 5 then some 24
  else if table = 6 ∨ table = 7 then some 6 else if table = 8 ∨ table = 9 then some 32 else none

/-- The bytes of a parameter's field (R177). -/
def ParamKind.size : ParamKind → Nat
  | .byte => 1
  | .speed => 2
  | .depth => 4
  | .quantity => 4

/-- The bytes of the entry at an index of a table (R177); none where there is no such entry. -/
def entrySize (table index : Nat) : Option Nat :=
  match tableSize table with
  | some n =>
    if index < n then
      some (if table = 3 then 12 else if table = 4 ∨ table = 5 then 4
            else if table = 6 ∨ table = 7 then (if index < 4 then 14 else 6)
            else (paramKind index).size)
    else none
  | none => none

/-- The request of an ENTRY WRITE: its length is fixed by its table and index (R177); where these name no
entry any length goes to the judgement of R158 (log 17). -/
def decodeEntryWrite (ps : List Byte) : Option Req :=
  if ps.length < 2 then none
  else match entrySize (u8At ps 0) (u8At ps 1) with
    | some n => if ps.length = n + 2 then some (.entryWrite (u8At ps 0) (u8At ps 1) (ps.drop 2)) else none
    | none => some (.entryWrite (u8At ps 0) (u8At ps 1) (ps.drop 2))

/-- The request of a RESTRICT WRITE (R63, R177): index, valid, base, k, cap, mask. -/
def decodeRestrictWrite (ps : List Byte) : Option Req :=
  match yesNoOf (u8At ps 1) with
  | some v =>
    if ps.length = 13 then
      some (.restrictWrite (u8At ps 0)
        { valid := v, base := s32At ps 2, k := u32At ps 6, cap := s16At ps 10, mask := u8At ps 12 })
    else none
  | none => none

/-- A request with `n` parameter bytes, if as many were sent. -/
def sized (n : Nat) (ps : List Byte) (r : Req) : Option Req := if ps.length = n then some r else none

/-- The request that a code and parameter bytes spell (R174, R175, R177); none for BAD_REQUEST. The source of an
EVENT INJECT takes one byte: the model's choice (log 47). -/
def decodeReq (code : Byte) (ps : List Byte) : Option Req :=
  match code.toNat with
  | 1 => sized 0 ps .status
  | 2 => sized 1 ps (.conveyanceRead (u8At ps 0))
  | 3 => match bankOf (u8At ps 0) with
    | some b => sized 3 ps (.rowRead b (u8At ps 1) (u8At ps 2))
    | none => none
  | 4 => (decodeEdit ps).map .rowWrite
  | 5 => (decodeEdit ps).map .rowInsert
  | 6 => sized 2 ps (.rowDelete (u8At ps 0) (u8At ps 1))
  | 7 => (decodeFind ps).map .rowFind
  | 8 => match bankOf (u8At ps 0) with
    | some b => sized 3 ps (.entryRead b (u8At ps 1) (u8At ps 2))
    | none => none
  | 9 => decodeEntryWrite ps
  | 10 => sized 1 ps (.restrictRead (u8At ps 0))
  | 11 => decodeRestrictWrite ps
  | 12 => sized 0 ps .bankCopy
  | 13 => sized 0 ps .bankCheck
  | 14 => sized 0 ps .bankCommit
  | 15 => sized 0 ps .commitCancel
  | 16 => sized 2 ps (.duty (u8At ps 0) (u8At ps 1))
  | 17 => sized 1 ps (.clear (u8At ps 0))
  | 18 => sized 1 ps (.backout (u8At ps 0))
  | 19 => sized 2 ps (.eventInject (u8At ps 0) (u8At ps 1))
  | 20 => sized 0 ps .softReset
  | _ => none

/-- The direction of a mark's code (R177). -/
def markDirOf (n : Nat) : Option MarkDir :=
  if n = 0 then some .down else if n = 1 then some .up else if n = 2 then some .both else none

/-- A mark entry from its bytes (log 47); none where a field lies outside its range (R26, R158). -/
def decodeMark (bs : List Byte) : Option MarkEntry :=
  match yesNoOf (u8At bs 0), convOfCode (u8At bs 2), markDirOf (u8At bs 11) with
  | some false, _, _ => some MarkEntry.invalid
  | some true, some v, some d =>
    if u8At bs 1 ≤ 15 ∧ inRange (-30000, 4200000) (s32At bs 3) ∧ inRange (1, 4095) (u32At bs 7 : Int) then
      some ⟨true, u8At bs 1, v, s32At bs 3, (u32At bs 7 : Int), d⟩
    else none
  | _, _, _ => none

/-- A class of a code (R177). -/
def classOf (n : Nat) : Option EvClass :=
  if n = 0 then some .note else if n = 1 then some .stop else if n = 2 then some .trip else none

/-- A route entry from its bytes; none where a field has no value of R122. -/
def decodeRoute (bs : List Byte) : Option Route :=
  match classOf (u8At bs 0), yesNoOf (u8At bs 1), yesNoOf (u8At bs 2), yesNoOf (u8At bs 3) with
  | some c, some l, some sc, some n =>
    some ⟨c, if l then .latch else .follow, if sc then .both else .own, n⟩
  | _, _, _, _ => none

/-- A route as it is stored for the source numbered `n` (R123): the class raised to the floor, the scope of
source 9 made BOTH. -/
def adjustRoute (n : Nat) (r : Route) : Route :=
  { r with cls := r.cls.raisedTo (floorClass n), scope := if n = 9 then .both else r.scope }

/-- A derate group from its bytes (log 47); none where a field lies outside its range (R69). -/
def decodeDerate (bs : List Byte) : Option DerateGroup :=
  match yesNoOf (u8At bs 0) with
  | some e =>
    if u8At bs 1 ≤ 3 ∧ u32At bs 2 ≤ 65535 ∧ u32At bs 6 ≤ u32At bs 2 ∧ inRange (1, 8) (u32At bs 10 : Int) then
      some ⟨e, u8At bs 1, (u32At bs 2 : Int), (u32At bs 6 : Int), (u32At bs 10 : Int)⟩
    else none
  | none => none

/-- A low alarm group from its bytes (log 47); none where a field lies outside its range (R71). -/
def decodeAlarm (bs : List Byte) : Option LowAlarm :=
  match yesNoOf (u8At bs 0) with
  | some e =>
    if u8At bs 1 ≤ 3 ∧ u32At bs 2 ≤ 65535 then some ⟨e, u8At bs 1, (u32At bs 2 : Int)⟩ else none
  | none => none

/-- A parameter's value from its bytes (R177). -/
def paramValue (i : Nat) (bs : List Byte) : Int :=
  match paramKind i with
  | .byte => (u8At bs 0 : Int)
  | .speed => s16At bs 0
  | .depth => s32At bs 0
  | .quantity => (u32At bs 0 : Int)

/-- A restriction entry as written (R63, R65): a write with valid NO leaves 0 in every other field. -/
def RestrictFields.entry (r : RestrictFields) : Restriction :=
  if r.valid then ⟨true, r.base, r.k, r.cap, ⟨inSet r.mask 0, inSet r.mask 1, inSet r.mask 2⟩⟩
  else Restriction.invalid

end Sys2Proof.Machine
end

