-- ==== Sys2Proof/Machine/Flags.lean ====
section
/-! DEFINITION. The Event Router's own computations: routes and effective latches (R122, R123), flags
(R124 to R126), live conditions (R121), blocking flags (R104), and the notice queue (R132 to R134). -/

namespace Sys2Proof.Machine

/-- The route entry of a source in a bank, its class raised to the floor (R104, R122, R123). -/
def Bank.route (b : Bank) (c : Channel) (src : Source) : Route :=
  let r := (b.routes c).getD src.num (defaultRoute src.num)
  { r with cls := r.cls.raisedTo (floorClass src.num) }

/-- The effective latch of a route (R123). -/
def effectiveLatch (r : Route) (src : Source) : Latch :=
  if r.cls = .trip then .latch else if src.isState then r.latch else .latch

/-- The flag of a source (R124). -/
def Chan.flag (x : Chan) (src : Source) : FlagState := x.flags.getD src.num .clear

/-- A channel with the flag of a source written. -/
def Chan.setFlag (x : Chan) (src : Source) (f : FlagState) : Chan :=
  { x with flags := x.flags.set src.num f }

/-- A flag after its source is routed (R125 step 1). -/
def flagRaised (l : Latch) (old : FlagState) : FlagState :=
  match l, old with
  | .latch, _ => .latched
  | .follow, .latched => .latched
  | .follow, _ => .following

/-- A flag when its source's condition falls (R126). -/
def flagFallen : FlagState → FlagState
  | .following => .clear
  | f => f

/-- The channel's flag of a source falls if it follows its condition (R126). -/
def State.fall (s : State) (c : Channel) (src : Source) : State :=
  s.updCh c fun x => x.setFlag src (flagFallen (x.flag src))

/-- The live condition of a source, as its raising block holds it (R121); false for an occurrence. -/
def Chan.live (x : Chan) : Source → Bool
  | .overwindDeep => x.env.overDeep
  | .overwindHigh => x.env.overHigh
  | .fbkLoss => x.ctr.fbkLoss
  | .triplineStuck => x.line.stuck
  | .creepExcess => x.ctr.creepExcess
  | .linkLoss => x.rsv.linkLoss
  | .permitLost => x.permitLost
  | .lowAlarm0 => x.env.low0
  | .lowAlarm1 => x.env.low1
  | _ => false

/-- The flag of a source after an event of it is routed with an effective latch (R125 step 1). Where the
condition has fallen since the event was raised, a flag that follows it has fallen too: the raise and the fall
do not come together (R126, R128). -/
def Chan.flagRouted (x : Chan) (l : Latch) (src : Source) : FlagState :=
  if x.live src then flagRaised l (x.flag src) else flagFallen (flagRaised l (x.flag src))

/-- A flag is set when it is FOLLOWING or LATCHED (R124). -/
def FlagState.isSet : FlagState → Bool
  | .clear => false
  | .following => true
  | .latched => true

/-- Whether the flag of a source of channel `own` blocks channel `c`, and with at least class `atLeast`
(R104). -/
def blocks (b : Bank) (c own : Channel) (x : Chan) (atLeast : EvClass) (src : Source) : Bool :=
  let r := b.route own src
  (x.flag src).isSet && decide (max atLeast.rank 1 ≤ r.cls.rank)
    && (decide (c = own) || (decide (r.scope = .both) && b.inUse c))

/-- Whether a channel has a blocking flag of at least a class (R104). -/
def State.blockedBy (s : State) (c : Channel) (atLeast : EvClass) : Bool :=
  Source.all.any (blocks s.active c c (s.ch c) atLeast)
    || Source.all.any (blocks s.active c (otherChannel c) (s.ch (otherChannel c)) atLeast)

/-- Whether a channel has a blocking flag (R104). -/
def State.hasBlocking (s : State) (c : Channel) : Bool := s.blockedBy c .stop

/-- Whether a channel has a TRIP-class blocking flag (R104). -/
def State.hasTripBlocking (s : State) (c : Channel) : Bool := s.blockedBy c .trip

/-- A notice leaves a full queue to make room (R134): the oldest of a class is removed. -/
def removeOldest (k : EvClass) : List Notice → Option (List Notice)
  | [] => none
  | n :: rest => if n.body.cls = k then some rest else (removeOldest k rest).map (n :: ·)

/-- The queue a notice of a class may join, when 16 are held (R134); none when it is dropped. -/
def makeRoom (k : EvClass) (q : List Notice) : Option (List Notice) :=
  match k with
  | .note => none
  | .stop => removeOldest .note q
  | .trip => match removeOldest .note q with
    | some q' => some q'
    | none => removeOldest .stop q

/-- A notice is offered to the queue: it takes the counter's value, and joins, evicts or is dropped (R133,
R134, R136). -/
def State.offer (s : State) (b : NoticeBody) : State :=
  let n : Notice := ⟨s.seq, b⟩
  let s' := { s with seq := (s.seq + 1) % 256 }
  if s.notices.length < 16 then { s' with notices := s.notices ++ [n] }
  else match makeRoom b.cls s.notices with
    | some q => { s' with notices := q ++ [n], noticesLost := true }
    | none => { s' with noticesLost := true }

/-- The notice of a PART source (R132). -/
def partNotice (src : PartSource) (value : Option Int) (o : Option Offence) : NoticeBody :=
  { origin := .part src, cls := .note, injected := false, conv := none, depth := none, speed := none,
    value := value, offence := o }

/-- The notice of an event routed with a class (R125 step 3, R132). -/
def Raised.notice (r : Raised) (cls : EvClass) : NoticeBody :=
  { origin := .channel r.chan r.src, cls := cls, injected := r.injected, conv := r.conv, depth := r.depth,
    speed := r.speed, value := r.value, offence := none }

/-- An event of a channel's source with a conveyance, its depth, v_meas and a value. -/
def State.event (s : State) (c : Channel) (src : Source) (v : Conveyance) (depth : Depth) (value : Int) :
    Raised :=
  { chan := c, src := src, injected := false, conv := some v, depth := some depth,
    speed := some (s.ch c).ctr.vMeas, value := some value }

/-- An event that names the channel's primary conveyance at its estimated depth. -/
def State.primEvent (s : State) (c : Channel) (src : Source) (value : Int) : Raised :=
  s.event c src (primaryOf c) (s.ch c).prim.est value

/-- An event waits to be routed once the change it arose in is whole (log 10). -/
def State.enqueue (s : State) (r : Raised) : State := { s with raised := s.raised ++ [r] }

/-- What follows a condition that goes from `old` to `new`: its source is raised at a rise (R121), its flag
follows at a fall (R126). -/
def State.condition (s : State) (old new : Bool) (r : Raised) : State :=
  if new && !old then s.enqueue r else if old && !new then s.fall r.chan r.src else s

/-- The state with the flags of a channel cleared that a CLEAR clears (R130 step 1): LATCHED flags whose
condition is gone. -/
def Chan.clearGone (x : Chan) : Chan :=
  { x with flags := (List.zip Source.all x.flags).map fun (src, f) =>
      if f = .latched ∧ x.live src = false then .clear else f }

end Sys2Proof.Machine
end

