-- ==== Sys2Proof/Machine/Envelope.lean ====
section
/-! DEFINITION. The Envelope Unit's computations: profile lookup (R49 to R51), restrictions (R64), derating
and low alarms (R69 to R71), composition (R72, R73), ceilings (R74, R75), and the barrier and overwind
judgements (R53 to R58, R68). -/

namespace Sys2Proof.Machine

/-- The magnitude of a number (00_scope 6.5). -/
def mag (x : Int) : Int := if x < 0 then -x else x

/-- The sign of a number (00_scope 6.5). -/
def sgn (x : Int) : Int := if x < 0 then -1 else if x = 0 then 0 else 1

/-- A quotient rounded toward plus infinity (00_scope 6.5), the divisor positive. -/
def ceilDiv (a b : Int) : Int := -((-a) / b)

/-- The value between two rows (R51). -/
def interpolate (d0 d1 : Depth) (v0 v1 : Speed) (d : Depth) : Speed :=
  v0 + ((v1 - v0) * (d - d0)) / (d1 - d0)

/-- A profile looked up at a depth in a plane and a direction column (R50, R51). A profile with no rows,
which no in-use conveyance has, gives 0 (log 39). -/
def lookup (plane : Nat) (dir : Dir) : List Row → Depth → Speed
  | [], _ => 0
  | [r], _ => (r.limits plane).get dir
  | r :: r' :: rest, d =>
    if d ≤ r.depth then (r.limits plane).get dir
    else if d < r'.depth then
      interpolate r.depth r'.depth ((r.limits plane).get dir) ((r'.limits plane).get dir) d
    else lookup plane dir (r' :: rest) d

/-- Whether a restriction entry matches a conveyance at a depth (R64). -/
def Restriction.covers (e : Restriction) (v : Conveyance) (d : Depth) : Bool :=
  e.valid && e.mask.has v && decide (0 ≤ d) && decide (d / 2 ^ e.k = e.base / 2 ^ e.k)

/-- The lesser of a speed and a restriction cap, where there is one. -/
def capMin (cap : Option Speed) (v : Speed) : Speed :=
  match cap with
  | some c => min v c
  | none => v

/-- The restriction cap of a conveyance at a depth (R64): the lowest cap of the entries that match. -/
def restrictionCap (rs : List Restriction) (v : Conveyance) (d : Depth) : Option Speed :=
  rs.foldl (fun acc e => if e.covers v d then some (capMin acc e.cap) else acc) none

/-- Whether an entry is a barrier (R63). -/
def Restriction.barrier (e : Restriction) : Bool := e.valid && decide (e.cap = 0)

/-- The lowest-indexed valid barrier that matches a conveyance at a depth (R68). -/
def barrierAt (rs : List Restriction) (v : Conveyance) (d : Depth) : Option Nat :=
  rs.findIdx? fun e => e.barrier && e.covers v d

/-- The value of a channel's selected condition input (R69). -/
def Tracking.input (x : Tracking) (n : Nat) : Int :=
  if n = 0 then x.c0 else if n = 1 then x.c1 else if n = 2 then x.c2 else x.c3

/-- A derate group judged against its input (R69). -/
def groupAfter (g : DerateGroup) (x : Int) (active : Bool) : Bool :=
  g.enable && (if active then decide (g.release ≤ x) else decide (g.gate < x))

/-- The derate factor (R70): the k of the lowest-numbered active group, or 8. -/
def derateFactor : List DerateGroup → List Bool → Int
  | g :: gs, a :: as => if a then g.k else derateFactor gs as
  | _, _ => 8

/-- Whether a low alarm group's condition holds on a channel in a moving state (R71). -/
def alarmHolds (g : LowAlarm) (x : Tracking) : Bool := g.enable && decide (x.input g.select < g.gate)

/-- A conveyance permit from a profile limit (R72): restriction cap, unconfirmed cap, derate. -/
def composePermit (limit : Speed) (cap : Option Speed) (confirmed : Bool) (vUnconf factor : Int) : Speed :=
  let x := capMin cap limit
  let y := if confirmed then x else min x vUnconf
  (y * factor) / 8

/-- A conveyance's permits composed from the profile limits held (R72). -/
def State.composed (s : State) (v : Conveyance) : Limits :=
  let c := convChannel v
  let x := s.conv v
  let cap := restrictionCap s.restrictions v x.est
  ⟨composePermit x.profDown cap (s.ch c).ctr.confirmed (s.params c).vUnconf (s.ch c).env.factor,
   composePermit x.profUp cap (s.ch c).ctr.confirmed (s.params c).vUnconf (s.ch c).env.factor⟩

/-- The channel permits formed from the conveyance permits (R73). -/
def State.formedPermits (s : State) (c : Channel) : Limits :=
  let l : Limits := match c with
    | .a => ⟨min s.chA.prim.permitDown s.chA.cwt.permitUp, min s.chA.prim.permitUp s.chA.cwt.permitDown⟩
    | .b => ⟨s.chB.prim.permitDown, s.chB.prim.permitUp⟩
  if (s.ch c).state = .backout then ⟨min l.down (s.params c).vCreep, min l.up (s.params c).vCreep⟩ else l

/-- The ceiling target at a permitted speed (R74). -/
def ceilingTarget (p : Params) (v : Speed) : Speed := (v * (64 + p.tCeil)) / 64 + p.mAbs

/-- The descent step (R74). -/
def descentStep (p : Params) : Speed := ceilDiv (p.aTrip * p.tNom) 1000000

/-- The speed from which a channel's ceiling target is formed (R74). -/
def State.ceilingSpeed (s : State) (c : Channel) (d : Dir) : Speed :=
  if (s.ch c).state = .backout then (s.params c).vCreep
  else match d with
    | .down => (s.ch c).env.pDown
    | .up => (s.ch c).env.pUp

/-- A channel's ceiling target in a direction (R74). -/
def State.target (s : State) (c : Channel) (d : Dir) : Speed :=
  ceilingTarget (s.params c) (s.ceilingSpeed c d)

/-- A ceiling after its update (R75). -/
def ceilingAfter (held target step : Speed) : Speed :=
  if held ≤ target then target else max target (held - step)

/-- Both ceilings set to their targets (R76). -/
def State.ceilingsToTarget (s : State) (c : Channel) : State :=
  s.updCh c fun x => { x with env := { x.env with ceilDown := s.target c .down, ceilUp := s.target c .up } }

/-- Step 1 of stage 9, the groups (R69). -/
def State.judgeGroups (s : State) (c : Channel) : State :=
  s.updCh c fun x => { x with env := { x.env with
    groups := List.zipWith (fun g a => groupAfter g (x.ctr.input g.select) a)
      (s.active.derate c).groups x.env.groups } }

/-- Step 1 of stage 9, the factor (R70): DERATE_CHANGE waits where it changes. -/
def State.formFactor (s : State) (c : Channel) : State :=
  let k := derateFactor (s.active.derate c).groups (s.ch c).env.groups
  let s' := s.updCh c fun x => { x with env := { x.env with factor := k } }
  if k = (s.ch c).env.factor then s' else s'.enqueue (s'.primEvent c .derateChange k)

/-- One low alarm condition judged to hold or not (R71). -/
def State.setLow0 (s : State) (c : Channel) (on : Bool) : State :=
  let old := (s.ch c).env.low0
  let s' := s.updCh c fun x => { x with env := { x.env with low0 := on } }
  s'.condition old on
    (s'.primEvent c .lowAlarm0 ((s.ch c).ctr.input (s.active.derate c).alarm0.select))

/-- One low alarm condition judged to hold or not (R71). -/
def State.setLow1 (s : State) (c : Channel) (on : Bool) : State :=
  let old := (s.ch c).env.low1
  let s' := s.updCh c fun x => { x with env := { x.env with low1 := on } }
  s'.condition old on
    (s'.primEvent c .lowAlarm1 ((s.ch c).ctr.input (s.active.derate c).alarm1.select))

/-- The low alarm conditions judged (R71): condition 0, then 1. -/
def State.judgeAlarms (s : State) (c : Channel) : State :=
  let m := (s.ch c).state.moving
  let s0 := s.setLow0 c (m && alarmHolds (s.active.derate c).alarm0 (s.ch c).ctr)
  s0.setLow1 c (m && alarmHolds (s.active.derate c).alarm1 (s.ch c).ctr)

/-- A conveyance's profile limits looked up (R49). -/
def State.lookupConv (s : State) (v : Conveyance) : State :=
  let plane := (s.ch (convChannel v)).plane
  s.updConv v fun x => { x with
    profDown := lookup plane .down (s.active.profile v) x.est,
    profUp := lookup plane .up (s.active.profile v) x.est }

/-- A conveyance's permits taken as composed (R72). -/
def State.composeConv (s : State) (v : Conveyance) : State :=
  s.updConv v fun x => { x with permitDown := (s.composed v).down, permitUp := (s.composed v).up }

/-- A conveyance's permits in a restriction recompute (R62): the lesser of composed and held. -/
def State.lowerConv (s : State) (v : Conveyance) : State :=
  s.updConv v fun x => { x with
    permitDown := min (s.composed v).down x.permitDown, permitUp := min (s.composed v).up x.permitUp }

/-- The channel permits taken as formed (R73). -/
def State.formPermits (s : State) (c : Channel) : State :=
  s.updCh c fun x => { x with env := { x.env with
    pDown := (s.formedPermits c).down, pUp := (s.formedPermits c).up } }

/-- The channel permits in a restriction recompute: they only fall between evaluations (R66, R75, log 23). -/
def State.lowerPermits (s : State) (c : Channel) : State :=
  s.updCh c fun x => { x with env := { x.env with
    pDown := min (s.formedPermits c).down x.env.pDown, pUp := min (s.formedPermits c).up x.env.pUp } }

/-- The ceilings updated (R75). -/
def State.updateCeilings (s : State) (c : Channel) : State :=
  s.updCh c fun x => { x with env := { x.env with
    ceilDown := ceilingAfter x.env.ceilDown (s.target c .down) (descentStep (s.params c)),
    ceilUp := ceilingAfter x.env.ceilUp (s.target c .up) (descentStep (s.params c)) } }

/-- The ceiling of the direction of v_meas (R77). -/
def Chan.ceilingOfMotion (x : Chan) : Speed := if 0 < x.ctr.vMeas then x.env.ceilDown else x.env.ceilUp

/-- The OVERSPEED check (R77): the event waits where the test holds. -/
def State.checkOverspeed (s : State) (c : Channel) : State :=
  let x := s.ch c
  if x.ctr.vMeas ≠ 0 ∧ x.ceilingOfMotion < mag x.ctr.vMeas then
    s.enqueue (s.primEvent c .overspeed x.ceilingOfMotion)
  else s

/-- A conveyance's in-barrier indication judged (R68). -/
def State.setInBarrier (s : State) (v : Conveyance) : State :=
  s.updConv v fun x => { x with inBarrier := (barrierAt s.restrictions v x.est).isSome }

/-- A conveyance's indication would go from false to true at a judgement (R68). -/
def State.entersBarrier (s : State) (v : Conveyance) : Bool :=
  !(s.conv v).inBarrier && (barrierAt s.restrictions v (s.conv v).est).isSome

/-- The barrier judgement of a channel (R68): at most one event waits, the first conveyance to enter being
named. -/
def State.judgeBarriers (s : State) (c : Channel) : State :=
  let s' := (convsOf c).foldl State.setInBarrier s
  match (convsOf c).find? s.entersBarrier with
  | some v =>
    if (s.ch c).ctr.feedbackValid ∧ (s.params c).vRest < mag (s.ch c).ctr.vMeas then
      s'.enqueue (s.event c .barrierEntry v (s.conv v).est
        (((barrierAt s.restrictions v (s.conv v).est).getD 0 : Nat) : Int))
    else s'
  | none => s'

/-- The thresholds a conveyance's overwind is judged by (R53, R56): the backout thresholds in BACKOUT, the
end limits otherwise. -/
def State.thresholds (s : State) (v : Conveyance) : Thresholds :=
  let x := s.ch (convChannel v)
  let limits : Thresholds := ⟨(s.active.convParams v).bottom, (s.active.convParams v).top⟩
  match x.state, x.env.backout with
  | .backout, some b => if v = .cwt then b.cwt else b.prim
  | _, _ => limits

/-- OVERWIND_DEEP judged (R53, R54). -/
def State.judgeDeep (s : State) (c : Channel) : State :=
  let beyond := (convsOf c).find? fun v => decide ((s.thresholds v).deep < (s.conv v).est)
  let old := (s.ch c).env.overDeep
  let s' := s.updCh c fun x => { x with env := { x.env with overDeep := beyond.isSome } }
  let v := beyond.getD (primaryOf c)
  s'.condition old beyond.isSome (s'.event c .overwindDeep v (s.conv v).est (s.thresholds v).deep)

/-- OVERWIND_HIGH judged (R53, R54). -/
def State.judgeHigh (s : State) (c : Channel) : State :=
  let beyond := (convsOf c).find? fun v => decide ((s.conv v).est < (s.thresholds v).high)
  let old := (s.ch c).env.overHigh
  let s' := s.updCh c fun x => { x with env := { x.env with overHigh := beyond.isSome } }
  let v := beyond.getD (primaryOf c)
  s'.condition old beyond.isSome (s'.event c .overwindHigh v (s.conv v).est (s.thresholds v).high)

/-- The overwind judgement (R54): OVERWIND_DEEP, then OVERWIND_HIGH (log 11). -/
def State.judgeOverwind (s : State) (c : Channel) : State := (s.judgeDeep c).judgeHigh c

/-- A conveyance's backout thresholds (R56). -/
def State.backoutThresholds (s : State) (v : Conveyance) : Thresholds :=
  let p := s.active.convParams v
  let d := (s.conv v).est
  let clear := (s.params (convChannel v)).clearance
  ⟨if p.bottom < d then d + clear else p.bottom, if d < p.top then d - clear else p.top⟩

/-- The channel direction that moves an overwound conveyance back, and whether one is called for (R57). -/
def State.backDirs (s : State) (v : Conveyance) : List Dir :=
  let p := s.active.convParams v
  let d := (s.conv v).est
  let deep : Dir := if v = .cwt then .down else .up
  (if p.bottom < d then [deep] else []) ++ (if d < p.top then [deep.opposite] else [])

/-- The backout direction (R57); none for NONE. -/
def State.backoutDir (s : State) (c : Channel) : Option Dir :=
  match (convsOf c).flatMap s.backDirs with
  | [] => none
  | d :: rest => if rest.all (fun e => decide (e = d)) then some d else none

/-- What the ENV does at entry into BACKOUT (R56, R57, R76): thresholds, direction, permits and ceilings,
and both overwind conditions judged against the thresholds. -/
def State.enterBackout (s : State) (c : Channel) : State :=
  let r : BackoutRec := ⟨s.backoutThresholds (primaryOf c), s.backoutThresholds .cwt, s.backoutDir c⟩
  let creep := (s.params c).vCreep
  let s1 := s.updCh c fun x => { x with env := { x.env with
    backout := some r, pDown := min x.env.pDown creep, pUp := min x.env.pUp creep } }
  (s1.ceilingsToTarget c).judgeOverwind c

/-- What the ENV does as a channel leaves BACKOUT (R58). -/
def State.leaveBackout (s : State) (c : Channel) : State :=
  (s.updCh c fun x => { x with env := { x.env with backout := none } }).judgeOverwind c

/-- The restriction recompute of a channel (R62), but for the routing of what it raises. -/
def State.recomputePermits (s : State) (c : Channel) : State :=
  ((convsOf c).foldl State.lowerConv s).lowerPermits c

/-- Whether a valid barrier covers the home depth, in a bank, of a conveyance in use there (R163). -/
def State.barrierConflict (s : State) (b : Bank) : Bool :=
  [Conveyance.cage, .cwt, .skip].any fun v =>
    b.convInUse v && (barrierAt s.restrictions v (b.convParams v).home).isSome

end Sys2Proof.Machine
end

