-- ==== Sys2Proof/Machine/Outputs.lean ====
section
/-! DEFINITION. The Safety Output Unit (chapter 8): trip line commands and readback monitors (R138 to R143),
the master trip line (R145), the dynamic hold output (R146) and the beacons (R147), with the 200 µs filter
that the mark, permit and readback inputs share (R24, R116, R140). -/

namespace Sys2Proof.Machine

/-- A filter whose raw level comes to `level` at a moment (R24). -/
def InputFilter.change (f : InputFilter) (level : Bool) (now : Micros) : InputFilter :=
  if level = f.raw then f
  else if level = f.filtered then { f with raw := level, candidate := none }
  else { f with raw := level, candidate := match f.candidate with | some t => some t | none => some now }

/-- The edge time of a change that a filter accepts at a moment: its candidate, once 200 µs old (R24). -/
def InputFilter.due (f : InputFilter) (now : Micros) : Option Micros :=
  match f.candidate with
  | some t => if t + 200 ≤ now then some t else none
  | none => none

/-- A filter after it accepts its change (R24). -/
def InputFilter.accepted (f : InputFilter) : InputFilter := { f with filtered := f.raw, candidate := none }

/-- A filter in reset, its raw level followed and no candidate held (R24, R182). -/
def InputFilter.track (f : InputFilter) (level : Bool) : InputFilter :=
  { f with raw := level, candidate := none }

/-- A filter sampled as a reset ends (R24, R116, R140). -/
def InputFilter.resampled (f : InputFilter) : InputFilter := InputFilter.sampled f.raw

/-- The command of a channel state (R138): true for CLOSED. -/
def ChanState.closesLine : ChanState → Bool
  | .idle => false
  | .tripped => false
  | .ready => true
  | .run => true
  | .stopping => true
  | .held => true
  | .backout => true

/-- Whether command and filtered readback agree (R140). -/
def TripLine.agrees (l : TripLine) : Bool := l.closed == l.readback.filtered

/-- The readback window of a channel in the active bank (R140), µs: t_rb in use, 200 ms otherwise. -/
def State.rbWindow (s : State) (c : Channel) : Micros :=
  if s.active.inUse c then ((s.params c).tRb * 1000).toNat else 200000

/-- A line given a new command (R141, first row). -/
def TripLine.command (l : TripLine) (closed : Bool) (now window : Micros) : TripLine :=
  let l' := { l with closed := closed }
  if l'.agrees then { l' with monitor := .agree, window := none }
  else { l' with monitor := .waiting, window := some ⟨now, window⟩ }

/-- The SOU is handed a channel's state (R138): a command that differs from the one held is new. -/
def State.commandLine (s : State) (c : Channel) : State :=
  let want := (s.ch c).state.closesLine
  if (s.ch c).line.closed = want then s
  else s.updCh c fun x => { x with line := x.line.command want s.now (s.rbWindow c) }

/-- A line after a change of its filtered readback is accepted (R141, second row; R143: the STUCK condition
falls where the readback is accepted as open). After an EXT_TRIP has commanded the line OPEN, a closing readback
disagrees by R141, where R144's first row says AGREE: the model follows R141 (log 45). -/
def TripLine.readbackAccepted (l : TripLine) (now window : Micros) : TripLine :=
  let l' := { l with readback := l.readback.accepted }
  let l'' := { l' with stuck := l'.stuck && l'.readback.filtered }
  if l''.agrees then { l'' with monitor := .agree, window := none }
  else if l''.monitor = .agree then { l'' with monitor := .waiting, window := some ⟨now, window⟩ }
  else l''

/-- A countdown has run out at a moment. -/
def Countdown.expired (t : Countdown) (now : Micros) : Bool := decide (t.since + t.timeout ≤ now)

/-- A timer, where it runs, has run out at a moment: its timeout. -/
def timedOut (t : Option Countdown) (now : Micros) : Option Micros :=
  match t with
  | some k => if k.expired now then some k.timeout else none
  | none => none

/-- The event of R142 and R143: depth and speed are present while feedback is valid. -/
def State.lineEvent (s : State) (c : Channel) (src : Source) (window : Micros) : Raised :=
  let x := s.ch c
  { chan := c, src := src, injected := false, conv := some (primaryOf c),
    depth := if x.ctr.feedbackValid then some x.prim.est else none,
    speed := if x.ctr.feedbackValid then some x.ctr.vMeas else none,
    value := some (window : Int) }

/-- The master trip line opens (R145, R146): the hold output goes low at once. -/
def State.openMaster (s : State) : State :=
  { s with masterClosed := false, holdOn := false, holdHigh := false }

/-- The master trip line closes (R145, R146): the hold output pulses, a high half first. -/
def State.closeMaster (s : State) : State :=
  if s.masterClosed then s
  else { s with masterClosed := true, holdOn := true, holdHigh := true, holdSince := s.now }

/-- Whether some contact is under suspicion (R145): a TRIPLINE_STUCK flag or condition of either line. -/
def State.lineSuspect (s : State) : Bool :=
  (s.chA.flag .triplineStuck).isSet || (s.chB.flag .triplineStuck).isSet
    || s.chA.line.stuck || s.chB.line.stuck

/-- A CLEAR judges the master trip line (R145). -/
def State.judgeMaster (s : State) : State := if s.lineSuspect then s else s.closeMaster

/-- The beacon of a channel's condition (R147). -/
def State.beaconFor (s : State) (c : Channel) : Beacon :=
  match (s.ch c).state with
  | .tripped => .on
  | .stopping => .flashing
  | .backout => .flashing
  | .held => if s.hasBlocking c then .flashing else .off
  | .idle => .off
  | .ready => .off
  | .run => .off

/-- Both beacons judged (R147). -/
def State.judgeBeacons (s : State) : State :=
  let a := s.beaconFor .a
  let b := s.beaconFor .b
  (s.updCh .a fun x => { x with beacon := a }).updCh .b fun x => { x with beacon := b }

/-- Whether a beacon is lit: steady, or flashing with the generator in its on half (R147). -/
def State.beaconLit (s : State) (c : Channel) : Bool :=
  match (s.ch c).beacon with
  | .on => true
  | .flashing => s.flashLit
  | .off => false

end Sys2Proof.Machine
end

