-- ==== Sys2Proof/Machine/RefOps.lean ====
section
/-! DEFINITION. The Reference Supervisor's shared operations: the reference queue and its eviction (R98),
ramp and held speeds (R82, R87), clamping (chapter 5.3), originated frames (R95, R97), the gap timer (R90). -/

namespace Sys2Proof.Machine

/-- A 16-bit count that stays at 65,535 (R99, R169, R170). -/
def bump (n : Nat) : Nat := if n < 65535 then n + 1 else n

/-- P of the direction of a speed (chapter 5.3). -/
def State.permitOf (s : State) (c : Channel) (v : Speed) : Speed :=
  if 0 < v then (s.ch c).env.pDown else (s.ch c).env.pUp

/-- A speed held to the permit of its direction as it stands now (R82, R86, R98). -/
def State.clamped (s : State) (c : Channel) (v : Speed) : Speed := sgn v * min (mag v) (s.permitOf c v)

/-- The stopping step (R78). -/
def stoppingStep (p : Params) : Speed := ceilDiv (p.aStop * p.tNom) 1000000

/-- The ramp speed (R87). -/
def State.rampSpeed (s : State) (c : Channel) : Speed :=
  let v := (s.ch c).rsv.forwarded
  sgn v * min (max 0 (mag v - stoppingStep (s.params c))) (s.permitOf c v)

/-- A number held to a range. -/
def clampTo (lo hi x : Int) : Int := max lo (min hi x)

/-- The oldest waiting frame of a channel is removed (R98). -/
def removeOfChannel (c : Channel) : List RefItem → Option (List RefItem)
  | [] => none
  | r :: rest => if r.chan = c then some rest else (removeOfChannel c rest).map (r :: ·)

/-- A REF frame the RSV has decided joins the reference queue (R98). -/
def State.joinRef (s : State) (r : RefItem) : State :=
  if s.refQueue.length < 4 then { s with refQueue := s.refQueue ++ [r] }
  else
    let kept := match removeOfChannel r.chan s.refQueue with
      | some q => q
      | none => s.refQueue.drop 1
    { s with refQueue := kept ++ [r], ovDown := bump s.ovDown }

/-- The forwarded reference of a channel is written (R80). -/
def State.setForwarded (s : State) (c : Channel) (v : Speed) : State :=
  s.updCh c fun x => { x with rsv := { x.rsv with forwarded := v } }

/-- The RSV originates a frame with a speed (R95): substitute flag set, the toggle left for the grant. -/
def State.originate (s : State) (c : Channel) (v : Speed) : State :=
  (s.setForwarded c v).joinRef
    { chan := c, dest := BitVec.ofInt 8 (s.params c).driveAddr, src := (s.ch c).rsv.lastController,
      speed := v, control := (s.ch c).rsv.lastControl, flags := 0x02, originated := true }

/-- The zero frame of R97 and R114: the forwarded reference becomes 0, a frame following if it was not. -/
def State.zeroReference (s : State) (c : Channel) : State :=
  if (s.ch c).rsv.forwarded = 0 then s else s.originate c 0

/-- A substitute frame (R95): its speed is the ramp speed; the period timer starts or restarts. -/
def State.substitute (s : State) (c : Channel) : State :=
  (s.originate c (s.rampSpeed c)).updCh c fun x => { x with rsv := { x.rsv with
    subTimer := some ⟨s.now, (s.params c).tNom.toNat⟩ } }

/-- The reference gap timeout of a state (R90), µs. -/
def gapTimeout (p : Params) (st : ChanState) : Micros :=
  if st.moving then (p.g * p.tNom).toNat else (p.tLong * 1000).toNat

/-- The reference gap timer starts with the timeout of the state in force, while LINK_LOSS is false (R90). -/
def State.restartGap (s : State) (c : Channel) : State :=
  s.updCh c fun x =>
    if x.state = .idle then { x with rsv := { x.rsv with gapTimer := none } }
    else if x.rsv.linkLoss then x
    else { x with rsv := { x.rsv with gapTimer := some ⟨s.now, gapTimeout (s.params c) x.state⟩ } }

/-- The reference gap timer has run out, and not at the moment it was started: an expiry that comes together
with what happens now (R94). -/
def State.gapRanOut (s : State) (c : Channel) : Bool :=
  match (s.ch c).rsv.gapTimer with
  | some k => decide (k.since < s.now) && k.expired s.now
  | none => false

/-- A change of state that R94 lets an expiry of the same moment outlast: the TRIP of a moving channel, and the
end of a controlled stop. -/
def expiryOutlasts (old new : ChanState) : Bool :=
  (old.moving && decide (new = .tripped)) || (decide (old = .stopping) && decide (new = .held))

/-- The reference gap timer at a change of state: restarted (R90), but for one that has run out at a change that
R94 lets its expiry outlast, which is left for that expiry (log 42). -/
def State.rearmGap (s : State) (c : Channel) (old new : ChanState) : State :=
  if expiryOutlasts old new && s.gapRanOut c then s else s.restartGap c

/-- The feedback gap timer starts with f × T_nom (R20). -/
def State.restartFbkGap (s : State) (c : Channel) : State :=
  s.updCh c fun x => { x with ctr := { x.ctr with
    gapTimer := some ⟨s.now, ((s.params c).f * (s.params c).tNom).toNat⟩ } }

/-- A channel is at rest (R103, 00_scope 6.6); in IDLE it counts so. -/
def State.atRest (s : State) (c : Channel) : Bool :=
  let x := s.ch c
  decide (x.state = .idle)
    || (x.ctr.feedbackValid && decide (mag x.ctr.vMeas ≤ (s.params c).vRest)
        && decide (x.rsv.forwarded = 0))

/-- A channel stands in IDLE, HELD, READY or TRIPPED and is at rest (R163, R181). -/
def State.standsAtRest (s : State) (c : Channel) : Bool := !(s.ch c).state.moving && s.atRest c

/-- The heeded permit lines of a channel that are deasserted (R116, R117), in order. -/
def State.lostPermits (s : State) (c : Channel) : List Nat :=
  (List.range 8).filter fun n =>
    (s.params c).permitEn.getLsbD n && !((s.ch c).permits.getD n (InputFilter.sampled false)).filtered

/-- PERMIT_LOST judged (R117): the event waits where the condition becomes true. -/
def State.judgePermits (s : State) (c : Channel) : State :=
  let on := (s.ch c).state.moving && !(s.lostPermits c).isEmpty
  let old := (s.ch c).permitLost
  let s' := s.updCh c fun x => { x with permitLost := on }
  s'.condition old on (s'.primEvent c .permitLost (((s.lostPermits c).headD 0 : Nat) : Int))

end Sys2Proof.Machine
end

