-- ==== Sys2Proof/Machine/Ops.lean ====
section
/-! DEFINITION. The operations every command works through: the timebase, changes of channel state with
their hand-offs (R102), the routing of events (R125), the trailer (R173), the application and judgement of
a commit (R164, R165), replies (R176), and the beginning and end of a reset (R182). -/

namespace Sys2Proof.Machine

/-- The timebase comes to the moment of a command; it never runs back (log 1). -/
def State.advance (s : State) (t : Micros) : State := { s with now := max s.now t }

/-- The arm states of a channel's entries become IDLE (R30). -/
def State.disarm (s : State) (c : Channel) : State :=
  { s with
    arms := List.zipWith (fun e a => if convChannel (MarkEntry.conv e) = c then ArmState.idle else a)
      s.active.marks s.arms }

/-- A channel's substitution ends (R97). -/
def State.endSubstitution (s : State) (c : Channel) : State :=
  s.updCh c fun x => { x with rsv := { x.rsv with substituting := false, subTimer := none } }

/-- The skip's payload is latched at the start of a wind of channel B (R11). -/
def State.latchPayload (s : State) : State :=
  s.updConv .skip fun x => { x with payload := min s.chB.ctr.reportedPayload 40000 }

/-- The state with an operation made where a condition holds. -/
def State.when (s : State) (b : Bool) (f : State → State) : State := if b then f s else s

/-- The RSV's and the CTR's share of a change of state (R102, R20, R90, R94, R97, R11, R114). -/
def State.handReference (s : State) (c : Channel) (old new : ChanState) : State :=
  ((((s.when (decide (new = .tripped) || (decide (old = .backout) && decide (new = .held)))
      (State.zeroReference · c)).when
      (decide (new = .tripped) || decide (new = .held)) (State.endSubstitution · c)).rearmGap c old new).when
      (decide (old = .idle)) (State.restartFbkGap · c)).when
      (decide (c = .b) && decide (old = .ready) && decide (new = .run)) State.latchPayload

/-- The ENV's, the MKU's and the permit lines' share of a change of state (R102, R30, R58, R71, R76, R113,
R117). -/
def State.handEnvelope (s : State) (c : Channel) (old new : ChanState) : State :=
  let crosses := decide (old.moving ≠ new.moving)
  (((((s.when (decide (old = .backout)) (State.leaveBackout · c)).when
      (decide (new = .ready)) (State.ceilingsToTarget · c)).when
      (decide (new = .backout)) (State.enterBackout · c)).when
      crosses (State.judgeAlarms · c)).when
      crosses (State.judgePermits · c)).when
      (old.moving && !new.moving) (State.disarm · c)

/-- A channel's state changes, with the hand-offs of R102; what they raise waits (log 10). -/
def State.changeState (s : State) (c : Channel) (new : ChanState) : State :=
  let old := (s.ch c).state
  if old = new then s
  else
    let s1 := s.updCh c fun x => { x with state := new }
    (((s1.handReference c old new).handEnvelope c old new)).commandLine c

/-- A response as the CHC acts on it (R107, R108). -/
def responseState (cls : EvClass) (st : ChanState) : ChanState :=
  match cls, st with
  | .stop, .ready => .held
  | .stop, .run => .stopping
  | .stop, .backout => .stopping
  | .trip, .ready => .tripped
  | .trip, .run => .tripped
  | .trip, .stopping => .tripped
  | .trip, .held => .tripped
  | .trip, .backout => .tripped
  | _, st => st

/-- A response is handed to a channel (R107, R108, R127). -/
def State.respond (s : State) (cls : EvClass) (c : Channel) : State :=
  s.changeState c (responseState cls (s.ch c).state)

/-- A response of class TRIP would have the channel originate a zero frame (R97). -/
def State.zeroFrameDue (s : State) (cls : EvClass) (c : Channel) : Bool :=
  decide (responseState cls (s.ch c).state = .tripped) && decide ((s.ch c).state ≠ .tripped)
    && decide ((s.ch c).rsv.forwarded ≠ 0)

/-- A free choice between two orders (log 13): true takes the first named first. -/
def State.choose (s : State) : Bool × State :=
  (Config.freeChoice s.choices, { s with choices := s.choices + 1 })

/-- The responses of an event (R125 step 2, R127). Two zero frames join the reference queue in either order
(R98, log 13). Otherwise the raising channel's response is acted on before the other's: R127 has neither wait
for the other, and the order of what both give rise to is the model's choice (log 11). -/
def State.respondAll (s : State) (rt : Route) (c : Channel) : State :=
  match rt.scope with
  | .own => s.respond rt.cls c
  | .both =>
    if s.zeroFrameDue rt.cls c && s.zeroFrameDue rt.cls (otherChannel c) then
      if s.choose.1 then (s.choose.2.respond rt.cls c).respond rt.cls (otherChannel c)
      else (s.choose.2.respond rt.cls (otherChannel c)).respond rt.cls c
    else (s.respond rt.cls c).respond rt.cls (otherChannel c)

/-- An event is routed (R125): flag, responses, notice; for a channel in IDLE it is discarded. An injected
event's flag is LATCHED (R129). A flag that would follow a condition that has fallen since the event was
raised falls with it (R126, R128; log 10). -/
def State.route (s : State) (r : Raised) : State :=
  if (s.ch r.chan).state = .idle then s
  else
    let rt := s.active.route r.chan r.src
    let l := if r.injected then .latch else effectiveLatch rt r.src
    let s1 := s.updCh r.chan fun x => x.setFlag r.src (x.flagRouted l r.src)
    let s2 := s1.respondAll rt r.chan
    if rt.notify then s2.offer (r.notice rt.cls) else s2

/-- The events that wait are routed in the order they arose (log 10). -/
def State.drain : Nat → State → State
  | 0, s => s
  | n + 1, s =>
    match s.raised with
    | [] => s
    | r :: rest => State.drain n ({ s with raised := rest }.route r)

/-- The events that wait, and those they give rise to, are routed. -/
def State.routeAll (s : State) : State := s.drain 16

/-- An event is raised: routed whole, with what it gives rise to (R125, log 10). -/
def State.raise (s : State) (r : Raised) : State := (s.enqueue r).routeAll

/-- A frame joins the upstream pass-through buffer, or is lost and counted (R170). -/
def State.passUpstream (s : State) (f : LinkFrame) : State :=
  if s.passUp.length < 4 then { s with passUp := s.passUp ++ [f] } else { s with ovUp := bump s.ovUp }

/-- A frame joins the downstream pass-through buffer, or is lost and counted (R99). -/
def State.passDownstream (s : State) (f : LinkFrame) : State :=
  if s.passDown.length < 4 then { s with passDown := s.passDown ++ [f] }
  else { s with ovDown := bump s.ovDown }

/-- The first 24 bytes of a channel's trailer, but for the last (R173, R177). -/
def State.trailer (s : State) (c : Channel) : List Byte :=
  let x := s.ch c
  fieldU8 x.state.code ++ fieldU8 x.plane
    ++ fieldU8 (setBits [s.hasBlocking c, x.flags.any fun f => decide (f = .latched), x.ctr.feedbackValid,
                         x.rsv.substituting])
    ++ fieldU8 (setBits [x.ctr.confirmed, decide (c = .a) && x.ctr.confirmed])
    ++ fieldS32 x.prim.est ++ fieldS32 (if c = .a then x.cwt.est else 0)
    ++ fieldU16 x.env.pDown ++ fieldU16 x.env.pUp ++ fieldU16 x.env.ceilDown ++ fieldU16 x.env.ceilUp
    ++ fieldS16 x.rsv.forwarded ++ fieldU8 x.env.factor

/-- The end of a trailer (R177): byte 40, and the notice where one is present. -/
def trailerNotice (q : List Notice) : List Byte :=
  match q with
  | [] => fieldU8 0
  | n :: _ => fieldU8 1 ++ noticeBytes n

/-- The LIU annotates a feedback frame and places it in the feedback output buffer (R173, R135), or
discards it where the buffer is full. -/
def State.annotate (s : State) (c : Channel) (f : LinkFrame) : State :=
  if s.fbkOut.length < 4 then
    { s with
      fbkOut := s.fbkOut ++ [{ f with payload := f.payload ++ s.trailer c ++ trailerNotice s.notices }]
      notices := s.notices.drop 1 }
  else { s with ovUp := bump s.ovUp }

/-- A channel's evaluation under way ends, with no further judgement (R19, R6): its frame is annotated
where the channel is in use, or passed up unchanged; a waiting frame is handed over, or passed up. -/
def State.endUnderway (s : State) (c : Channel) : State :=
  let use := s.active.inUse c
  let s1 := match (s.ch c).underway with
    | some h => if use then s.annotate c h.frame else s.passUpstream h.frame
    | none => s
  match (s.ch c).place with
  | some w =>
    if use then s1.updCh c fun x => { x with underway := some w, place := none }
    else (s1.passUpstream w.frame).updCh c fun x => { x with underway := none, place := none }
  | none => s1.updCh c fun x => { x with underway := none }

/-- A conveyance's record and envelope after a commit that leaves its channel in use (R22, R42, R59, R61). -/
def Conv.committed (x : Conv) : Conv :=
  { x with corrTotal := 0, correction := none, lastMark := none, lastJudged := none, profDown := 0,
           profUp := 0, permitDown := 0, permitUp := 0, inBarrier := false }

/-- What the CTR, MKU, ENV and RSV hold of a channel after a commit that leaves it in use (R22, R42, R59,
R61, R79). -/
def Chan.committed (x : Chan) (p : Params) (now : Micros) : Chan :=
  { x with
    prim := x.prim.committed, cwt := x.cwt.committed,
    ctr := { x.ctr with
      rebasePending := true, feedbackValid := false, confirmed := false,
      gapTimer := if x.ctr.fbkLoss then none else some ⟨now, (p.f * p.tNom).toNat⟩ },
    env := { Envelope.reset with ceilDown := p.mAbs, ceilUp := p.mAbs },
    rsv := { x.rsv with lastAccepted := none, lastToggle := none, substituting := false, subTimer := none } }

/-- What they hold of a channel after a commit that leaves it out of use (R22, R42, R61, R79, R119). The STUCK
condition of its line, too, takes its reset value where the channel enters IDLE by the commit (R119, log 20). -/
def Chan.uncommitted (x : Chan) : Chan :=
  { x with prim := Conv.reset, cwt := Conv.reset, ctr := Tracking.reset, env := Envelope.reset,
           rsv := RefContext.reset, permitLost := false,
           line := { x.line with stuck := x.line.stuck && decide (x.state = .idle) } }

/-- Step 2 of a commit for a channel (R165). -/
def State.commitBlocks (s : State) (c : Channel) : State :=
  s.updCh c fun x => if s.active.inUse c then x.committed (s.params c) s.now else x.uncommitted

/-- A flag after a commit (R131). -/
def flagCommitted (l : Latch) (live : Bool) (f : FlagState) : FlagState :=
  match f with
  | .clear => .clear
  | .latched => .latched
  | .following => match l with
    | .latch => .latched
    | .follow => if live then .following else .clear

/-- Step 3 of a commit for a channel (R131). -/
def State.commitFlags (s : State) (c : Channel) : State :=
  s.updCh c fun x =>
    if s.active.inUse c then
      { x with flags := (List.zip Source.all x.flags).map fun (src, f) =>
          flagCommitted (effectiveLatch (s.active.route c src) src) (x.live src) f }
    else { x with flags := List.replicate 24 .clear }

/-- The state of a channel after a commit (R118). -/
def State.commitState (s : State) (c : Channel) : ChanState :=
  if !s.active.inUse c then .idle
  else if s.hasTripBlocking c then .tripped
  else if (s.ch c).state = .tripped then .tripped else .held

/-- A window running on a line whose command the commit did not change starts afresh (R149). -/
def State.commitWindow (s : State) (c : Channel) (was : Bool) : State :=
  s.updCh c fun x =>
    if x.line.closed = was ∧ x.line.window.isSome then
      { x with line := { x.line with window := some ⟨s.now, s.rbWindow c⟩ } }
    else x

/-- TRIPLINE_STUCK is raised again for a channel that has left IDLE with its condition true (R143, R149,
log 21). -/
def State.commitStuck (s : State) (c : Channel) (was : ChanState) : State :=
  if was = .idle ∧ (s.ch c).state ≠ .idle ∧ (s.ch c).line.stuck then
    s.raise (s.lineEvent c .triplineStuck (s.ch c).line.stuckWindow)
  else s

/-- Both channels' evaluations under way end at a commit (R19, R6); two trailers are formed in either order
(R135, R173, log 13). -/
def State.endEvaluations (s : State) : State :=
  if s.chA.underway.isSome && s.chB.underway.isSome then
    if s.choose.1 then (s.choose.2.endUnderway .a).endUnderway .b
    else (s.choose.2.endUnderway .b).endUnderway .a
  else (s.endUnderway .a).endUnderway .b

/-- A commit is applied (R165), in the order of its steps; evaluations under way then end (R19, log 8). -/
def State.applyCommit (s : State) : State :=
  let s1 := { s with active := s.shadow, activeLoaded := true, pendingCommit := false,
                     arms := List.replicate 32 .idle }
  let s2 := (s1.commitBlocks .a).commitBlocks .b
  let s3 := (s2.commitFlags .a).commitFlags .b
  let s4 := (s3.changeState .a (s3.commitState .a)).changeState .b (s3.commitState .b)
  let s5 := (s4.commitWindow .a s.chA.line.closed).commitWindow .b s.chB.line.closed
  let s6 := (s5.commitStuck .a s.chA.state).commitStuck .b s.chB.state
  (s6.offer (partNotice .commitDone none none)).endEvaluations

/-- A pending commit is judged (R164). -/
def State.judgeCommit (s : State) : State :=
  if s.pendingCommit && s.standsAtRest .a && s.standsAtRest .b && !s.barrierConflict s.shadow then
    s.applyCommit
  else s

/-- A pending commit is judged where either channel's state has changed since `was` (R164). -/
def State.judgeSince (s was : State) : State :=
  if s.chA.state = was.chA.state ∧ s.chB.state = was.chB.state then s else s.judgeCommit

/-- The waiting events are routed, and a pending commit judged if a channel's state has changed since
`was` (R125, R164). Every event that waits is routed before the commit is judged, also where the response to an
earlier one has brought both channels to stand at rest: the model's choice (log 46). -/
def State.routeAndJudge (s was : State) : State := s.routeAll.judgeSince was

/-- An event is raised, and a pending commit judged if it changed a channel's state (R125, R164). -/
def State.raiseAndJudge (s : State) (r : Raised) : State := (s.enqueue r).routeAndJudge s

/-- A channel's state is changed, what that raises is routed, and a pending commit is judged (R102, R125,
R164). -/
def State.moveTo (s : State) (c : Channel) (new : ChanState) : State :=
  (s.changeState c new).routeAndJudge s

/-- A channel in STOPPING whose forwarded reference is 0 and which is at rest goes to HELD (R109). -/
def State.judgeStopEnd (s : State) (c : Channel) : State :=
  if (s.ch c).state = .stopping ∧ s.atRest c then s.changeState c .held else s

/-- The RSV has handed a new forwarded reference (R109, R164): the end of a stop, then a pending commit. -/
def State.afterForward (s : State) (c : Channel) : State := (s.judgeStopEnd c).routeAll.judgeCommit

/-- The conditions of admission to READY, but for the state (R105). -/
def State.admissible (s : State) (c : Channel) : Bool :=
  let x := s.ch c
  !s.hasBlocking c && x.ctr.feedbackValid && !x.rsv.linkLoss && decide (x.rsv.lossCount < 3)

/-- Admission judged (R105), where the channel was HELD before the present moment (log 40). -/
def State.judgeAdmission (s : State) (c : Channel) (wasHeld : Bool) : State :=
  if wasHeld && decide ((s.ch c).state = .held) && s.admissible c then s.changeState c .ready else s

/-- The statuses of R176. -/
inductive Status where
  | ok | okAdjusted | pending | busy | refusedState | refusedMoving | refusedRange | refusedDuplicate
  | refusedFull | refusedBank | refusedConflict | badRequest
  deriving DecidableEq, Repr

/-- The code of a status (R176). -/
def Status.code : Status → Nat
  | .ok => 0
  | .okAdjusted => 1
  | .pending => 2
  | .busy => 3
  | .refusedState => 4
  | .refusedMoving => 5
  | .refusedRange => 6
  | .refusedDuplicate => 7
  | .refusedFull => 8
  | .refusedBank => 9
  | .refusedConflict => 10
  | .badRequest => 11

/-- A reply frame (R176, R177). -/
def replyFrame (linkAddr dest code tag : Byte) (st : Status) (data : List Byte) : LinkFrame :=
  ⟨dest, linkAddr, LinkFrame.kindMrep, code :: tag :: (fieldU8 st.code ++ data)⟩

/-- The reply to a request is built into a free place of the reply buffer (R175, R176). -/
def State.reply (s : State) (q : Request) (st : Status) (data : List Byte) : State :=
  { s with replies := s.replies ++ [⟨replyFrame s.linkAddr q.src q.code q.tag st data, false⟩] }

/-- The request the management engine may execute (R175): the head of the queue, where a place for its
reply is free. -/
def State.headRequest (s : State) : Option Request :=
  if s.replies.length < 4 then s.requests.head? else none

/-- The head request leaves the queue as it is executed (R175). -/
def State.takeRequest (s : State) : State := { s with requests := s.requests.drop 1 }

/-- The engine executes the head of the queue, if it is of the kind `f` answers for: `f` gives the effect
with its reply (log 5). -/
def State.engine (s : State) (f : Req → Option (Request → State → State)) : State :=
  match s.headRequest with
  | none => s
  | some q => match decodeReq q.code q.params with
    | none => s
    | some r => match f r with
      | none => s
      | some g => g q s.takeRequest

/-- A pending commit is cancelled (R164) with the cause `value`. -/
def State.cancelCommit (s : State) (value : Int) : State :=
  if s.pendingCommit then
    { s with pendingCommit := false }.offer (partNotice .commitCancelled (some value) none)
  else s

/-- A channel as a reset leaves it (R182), its inputs as they stand. -/
def Chan.resetKeeping (x : Chan) : Chan :=
  Chan.reset (x.permits.map InputFilter.raw) x.line.readback.raw

/-- The values of every block from the beginning of a reset (R182, R148): the inputs as they stand, the
outputs as during a reset. -/
def State.resetValues (s : State) : State :=
  { State.reset with
    now := s.now
    powerReset := s.powerReset
    inputReset := s.inputReset
    softReset := s.softReset
    linkAddr := s.linkAddr
    phase1 := s.phase1
    phase2 := s.phase2
    markFilters := s.markFilters.map fun f => InputFilter.sampled f.raw
    chA := s.chA.resetKeeping
    chB := s.chB.resetKeeping
    holdOn := false
    holdHigh := false
    holdSince := s.now
    flashOn := false
    flashLit := false
    flashSince := s.now
    choices := s.choices
    pending := s.pending }

/-- A line as a reset ends (R141, R148). -/
def TripLine.resetEnds (l : TripLine) (now : Micros) : TripLine :=
  let f := l.readback.resampled
  { l with readback := f,
           monitor := if f.filtered then .waiting else .agree,
           window := if f.filtered then some ⟨now, 200000⟩ else none }

/-- A channel as a reset ends (R116, R141). -/
def Chan.resetEnds (x : Chan) (now : Micros) : Chan :=
  { x with permits := x.permits.map InputFilter.resampled, line := x.line.resetEnds now }

/-- A reset ends (R182, R148, R172): inputs and straps are sampled, the generators start. -/
def State.resetEnds (s : State) (straps : BitVec 4) : State :=
  { s with
    linkAddr := 0x40 + straps.zeroExtend 8
    markFilters := s.markFilters.map InputFilter.resampled
    chA := s.chA.resetEnds s.now
    chB := s.chB.resetEnds s.now
    holdOn := true
    holdHigh := true
    holdSince := s.now
    flashOn := true
    flashLit := true
    flashSince := s.now }

/-- The SOU's standing judgement of the beacons (R147), made of every state a command leaves. -/
def State.settle (s : State) : State := s.judgeBeacons

/-- A command that acts while the part is out of reset and is lost in reset (R182). -/
def outOfReset (t : Micros) (s : State) (f : State → State) : Host.Outcome State Fault Refusal :=
  let s' := s.advance t
  .next (if s'.inReset then s' else (f s').settle)

end Sys2Proof.Machine
end

