-- ==== Sys2Proof/Machine/BankOps.lean ====
section
/-! DEFINITION. The Table Bank's operations: BANK COPY (R159), BANK CHECK and the CHECK (R160, R161), BANK
COMMIT (R163) and COMMIT CANCEL (R164). -/

namespace Sys2Proof.Machine

/-- The first offence of several examinations made in order (R161). -/
def firstOffence : List (Option Offence) → Option Offence
  | [] => none
  | some o :: _ => some o
  | none :: rest => firstOffence rest

/-- An offence where a condition fails. -/
def offenceUnless (ok : Bool) (o : Offence) : Option Offence := if ok then none else some o

/-- The table of a channel's parameter record (R150). -/
def paramTable : Channel → Nat
  | .a => 8
  | .b => 9

/-- The depths at which the cage and the counterweight both stand clear (R161 step 2): some cage depth within
the clearance of its limits puts the counterweight within the clearance of its own. -/
def balanceFits (p : Params) : Bool :=
  decide (max (p.prim.top + p.clearance) (p.lBal - (p.cwt.bottom - p.clearance))
    ≤ min (p.prim.bottom - p.clearance) (p.lBal - (p.cwt.top + p.clearance)))

/-- The bounds between parameters that are judged at an index (R161 step 2). -/
def boundsFit (c : Channel) (p : Params) (i : Nat) : Bool :=
  if i = 16 then decide (p.prim.top < p.prim.bottom)
  else if i = 17 then inRange (p.prim.top, p.prim.bottom) p.prim.home
  else if i = 19 then decide (p.cwt.top < p.cwt.bottom)
  else if i = 20 then inRange (p.cwt.top, p.cwt.bottom) p.cwt.home
  else if i = 21 then
    decide (2 * p.clearance ≤ p.prim.bottom - p.prim.top)
      && (decide (c = .b)
          || (decide (2 * p.clearance ≤ p.cwt.bottom - p.cwt.top) && balanceFits p))
  else if i = 22 then decide (p.vUnconf ≤ p.vMax)
  else if i = 23 then decide (p.vCreep ≤ p.vMax)
  else if i = 27 then decide (p.aStop ≤ p.aTrip)
  else true

/-- The examination of a drive address (R161 step 3). -/
def addressFits (linkAddr : Byte) (b : Bank) (c : Channel) : Bool :=
  decide ((b.params c).driveAddr ≠ (linkAddr.toNat : Int))
    && (decide (c = .a) || !b.paramsA.inUse || decide (b.paramsB.driveAddr ≠ b.paramsA.driveAddr))

/-- The examination of one parameter of an in-use channel (R161 steps 2 and 3). -/
def checkParam (linkAddr : Byte) (b : Bank) (c : Channel) (i : Nat) : Option Offence :=
  if !paramExists c i then none
  else firstOffence
    [offenceUnless (inRange (paramRange i) ((b.params c).get i) && boundsFit c (b.params c) i)
       ⟨paramTable c, i, .paramRange⟩,
     offenceUnless (decide (i ≠ 1) || addressFits linkAddr b c) ⟨paramTable c, 1, .paramAddress⟩]

/-- The examination of a channel's parameters (R161 steps 2 and 3). -/
def checkParams (linkAddr : Byte) (b : Bank) (c : Channel) : Option Offence :=
  if b.inUse c then firstOffence ((List.range 32).map (checkParam linkAddr b c)) else none

/-- Each of a row's eight limits is at most v_max (R161 step 6). -/
def rowLimitsFit (vMax : Int) (r : Row) : Bool :=
  (List.range 4).all fun p => decide ((r.limits p).down ≤ vMax) && decide ((r.limits p).up ≤ vMax)

/-- The examination of a profile's rows from an index on (R161 steps 5 to 7). -/
def checkRows (table : Nat) (vMax top bottom : Int) : Option Depth → Nat → List Row → Option Offence
  | _, _, [] => none
  | prev, i, r :: rest =>
    firstOffence
      [offenceUnless (match prev with | some d => decide (d < r.depth) | none => true)
         ⟨table, i, .profileOrder⟩,
       offenceUnless (rowLimitsFit vMax r) ⟨table, i, .profileLimit⟩,
       offenceUnless ((decide (i ≠ 0) || decide (r.depth ≤ top))
           && (!rest.isEmpty || decide (bottom ≤ r.depth))) ⟨table, i, .profileSpan⟩,
       checkRows table vMax top bottom (some r.depth) (i + 1) rest]

/-- The examination of the profile of a conveyance (R161 steps 4 to 7). -/
def checkProfile (b : Bank) (v : Conveyance) : Option Offence :=
  if b.convInUse v then
    let rows := b.profile v
    firstOffence
      [offenceUnless (decide (2 ≤ rows.length)) ⟨v.code, rows.length, .profileLength⟩,
       checkRows v.code (b.params (convChannel v)).vMax (b.convParams v).top (b.convParams v).bottom
         none 0 rows]
  else none

/-- A mark entry is valid and of an in-use conveyance (R161 steps 8 and 9). -/
def Bank.countsMark (b : Bank) (e : MarkEntry) : Bool := e.valid && b.convInUse e.conv

/-- Two mark entries share a key (R26, R161 step 9). -/
def MarkEntry.sharesKey (e o : MarkEntry) : Bool :=
  decide (e.conv = o.conv) && (decide (e.line = o.line) || decide (e.depth = o.depth))

/-- The examination of the mark entries from an index on, `before` being those of lower index (R161 steps 8
and 9). -/
def checkMarks (b : Bank) : List MarkEntry → Nat → List MarkEntry → Option Offence
  | _, _, [] => none
  | before, i, e :: rest =>
    firstOffence
      [if b.countsMark e then firstOffence
         [offenceUnless (inRange ((b.convParams e.conv).top, (b.convParams e.conv).bottom) e.depth)
            ⟨3, i, .markRange⟩,
          offenceUnless (!before.any fun o => b.countsMark o && e.sharesKey o) ⟨3, i, .markKey⟩]
       else none,
       checkMarks b (before ++ [e]) (i + 1) rest]

/-- The CHECK of a bank (R161): the first offence met. -/
def checkBank (linkAddr : Byte) (b : Bank) : Option Offence :=
  firstOffence
    [offenceUnless (b.paramsA.inUse || b.paramsB.inUse) ⟨8, 0, .noChannel⟩,
     checkParams linkAddr b .a, checkParams linkAddr b .b,
     checkProfile b .cage, checkProfile b .cwt, checkProfile b .skip,
     checkMarks b [] 0 b.marks]

/-- BANK COPY, by its rule (R159). -/
def runBankCopy (q : Request) (s : State) : State :=
  if s.shadowState = .checking then s.reply q .busy []
  else
    let st : ShadowState := if s.activeLoaded then .valid else .empty
    { s.cancelCommit 1 with shadow := s.active, shadowState := st }.reply q .ok (fieldU8 st.code)

/-- BANK CHECK, by its rule (R160): the CHECK begins. -/
def runBankCheck (q : Request) (s : State) : State :=
  if s.shadowState = .checking then s.reply q .busy []
  else
    { s.cancelCommit 2 with shadowState := .checking, checkJob := some (q.src, q.tag) }.reply q .pending []

/-- The outcome of a CHECK as data (R160, R177). The offence is sent with no presence byte, and nothing is sent
for it after VALID: the model's choice (log 44). -/
def outcomeBytes (o : Option Offence) : List Byte :=
  match o with
  | some k => fieldU8 1 ++ offenceBytes k
  | none => fieldU8 0

/-- The CHECK completes (R160): the shadow's state, the second reply in its place (log 22), CHECK_DONE. -/
def State.completeCheck (s : State) : State :=
  match s.checkJob with
  | none => s
  | some (src, tag) =>
    let o := checkBank s.linkAddr s.shadow
    { s with
      shadowState := if o.isSome then .invalid else .valid
      checkJob := none
      checkReply := some ⟨replyFrame s.linkAddr src 13 tag .ok (outcomeBytes o), s.replies.length⟩ }.offer
      (partNotice .checkDone (some (if o.isSome then 1 else 0)) o)

/-- BANK COMMIT, by its rule (R163). -/
def runBankCommit (q : Request) (s : State) : State :=
  if s.shadowState = .checking then s.reply q .busy []
  else if s.shadowState ≠ .valid then s.reply q .refusedBank []
  else if s.barrierConflict s.shadow then s.reply q .refusedConflict []
  else if s.pendingCommit then s.reply q .pending []
  else if s.standsAtRest .a && s.standsAtRest .b then s.applyCommit.reply q .ok []
  else { s with pendingCommit := true }.reply q .pending []

/-- COMMIT CANCEL, by its rule (R164). -/
def runCommitCancel (q : Request) (s : State) : State :=
  if s.pendingCommit then (s.cancelCommit 3).reply q .ok [] else s.reply q .refusedState []

/-- BANK COPY (R159). -/
def execBankCopy (t : Micros) (s : State) : Host.Outcome State Fault Refusal :=
  outOfReset t s (State.engine · fun
    | .bankCopy => some runBankCopy
    | _ => none)

/-- BANK CHECK (R160). -/
def execBankCheck (t : Micros) (s : State) : Host.Outcome State Fault Refusal :=
  outOfReset t s (State.engine · fun
    | .bankCheck => some runBankCheck
    | _ => none)

/-- CHECK_COMPLETES (R160, R161). -/
def execCheckCompletes (t : Micros) (s : State) : Host.Outcome State Fault Refusal :=
  outOfReset t s State.completeCheck

/-- BANK COMMIT (R163). -/
def execBankCommit (t : Micros) (s : State) : Host.Outcome State Fault Refusal :=
  outOfReset t s (State.engine · fun
    | .bankCommit => some runBankCommit
    | _ => none)

/-- COMMIT CANCEL (R164). -/
def execCommitCancel (t : Micros) (s : State) : Host.Outcome State Fault Refusal :=
  outOfReset t s (State.engine · fun
    | .commitCancel => some runCommitCancel
    | _ => none)

end Sys2Proof.Machine
end

