-- ==== Sys2Proof/Machine/Entries.lean ====
section
/-! DEFINITION. Table entries (R158): ENTRY READ and ENTRY WRITE on tables 3 to 9. -/

namespace Sys2Proof.Machine

/-- The channel of a pair of tables, the lower-numbered one channel A's (R150). -/
def tableChannel (table : Nat) : Channel := if table = 4 ∨ table = 6 ∨ table = 8 then .a else .b

/-- The entry of a bank's table as data (R158, R177); none where there is no such entry. -/
def Bank.entryBytes (b : Bank) (table index : Nat) : Option (List Byte) :=
  let c := tableChannel table
  if table = 3 then (b.marks[index]?).map markBytes
  else if table = 4 ∨ table = 5 then ((b.routes c)[index]?).map routeBytes
  else if table = 6 ∨ table = 7 then
    if index = 4 then some (alarmBytes (b.derate c).alarm0)
    else if index = 5 then some (alarmBytes (b.derate c).alarm1)
    else ((b.derate c).groups[index]?).map derateBytes
  else if table = 8 ∨ table = 9 then
    if index < 32 then some (paramBytes index (if paramExists c index then (b.params c).get index else 0))
    else none
  else none

/-- A bank with a channel's routing table replaced. -/
def Bank.setRoutes (b : Bank) (c : Channel) (r : List Route) : Bank :=
  match c with
  | .a => { b with routesA := r }
  | .b => { b with routesB := r }

/-- A bank with a channel's derate table replaced. -/
def Bank.setDerate (b : Bank) (c : Channel) (d : DerateTable) : Bank :=
  match c with
  | .a => { b with derateA := d }
  | .b => { b with derateB := d }

/-- A bank with a low alarm group written (R158). -/
def Bank.writeAlarm (b : Bank) (c : Channel) (index : Nat) (g : LowAlarm) : Bank :=
  b.setDerate c (if index = 4 then { b.derate c with alarm0 := g } else { b.derate c with alarm1 := g })

/-- A bank with an entry written (R158), and whether it was adjusted (R123); none where a field lies
outside its range. -/
def Bank.writeEntry (b : Bank) (table index : Nat) (bs : List Byte) : Option (Bank × Bool) :=
  let c := tableChannel table
  if table = 3 then
    (decodeMark bs).map fun e => ({ b with marks := b.marks.set index e }, false)
  else if table = 4 ∨ table = 5 then
    (decodeRoute bs).map fun r =>
      let r' := adjustRoute index r
      (b.setRoutes c ((b.routes c).set index r'), decide (r' ≠ r))
  else if table = 6 ∨ table = 7 then
    if index = 4 ∨ index = 5 then (decodeAlarm bs).map fun g => (b.writeAlarm c index g, false)
    else (decodeDerate bs).map fun g =>
      (b.setDerate c { b.derate c with groups := (b.derate c).groups.set index g }, false)
  else
    let v := paramValue index bs
    if inRange (paramRange index) v then some (b.setParams c ((b.params c).set index v), false) else none

/-- Whether a request names an entry that may be written (R158, order 2). -/
def entryWritable (table index : Nat) : Bool :=
  match tableSize table with
  | some n => decide (index < n) && (decide (table < 8) || paramExists (tableChannel table) index)
  | none => false

/-- ENTRY READ, by its rule (R158). -/
def runEntryRead (shadow : Bool) (table index : Nat) (q : Request) (s : State) : State :=
  match (if shadow then s.shadow else s.active).entryBytes table index with
  | some bs => s.reply q .ok bs
  | none => s.reply q .refusedRange []

/-- ENTRY WRITE, by its rule (R158, R153, R164). -/
def runEntryWrite (table index : Nat) (bs : List Byte) (q : Request) (s : State) : State :=
  if s.shadowState = .checking then s.reply q .busy []
  else if !entryWritable table index then s.reply q .refusedRange []
  else match s.shadow.writeEntry table index bs with
    | none => s.reply q .refusedRange []
    | some (b, adjusted) =>
      { s.cancelCommit 0 with shadow := b, shadowState := .dirty }.reply q
        (if adjusted then .okAdjusted else .ok) ((b.entryBytes table index).getD [])

/-- ENTRY READ (R158). -/
def execEntryRead (t : Micros) (s : State) : Host.Outcome State Fault Refusal :=
  outOfReset t s (State.engine · fun
    | .entryRead b n i => some (runEntryRead b n i)
    | _ => none)

/-- ENTRY WRITE (R158). -/
def execEntryWrite (t : Micros) (s : State) : Host.Outcome State Fault Refusal :=
  outOfReset t s (State.engine · fun
    | .entryWrite n i bs => some (runEntryWrite n i bs)
    | _ => none)

end Sys2Proof.Machine
end

