-- ==== Sys2Proof/Machine/Evaluation.lean ====
section
/-! DEFINITION. The feedback evaluation of a channel (R6 to R19) with the Mark Unit's share of stage 6
(R27 to R30, R39), the envelope recompute of stage 9 (R62) and the judgements at its end (R105, R109,
R114, R164). -/

namespace Sys2Proof.Machine

/-- What an evaluation carries between its stages: whether it re-bases (R7), and the differences of the
drum and the measuring wheel in fine units (R8). -/
structure EvalWork where
  rebase : Bool
  dDrum  : Int
  dWheel : Int
  deriving DecidableEq, Repr

/-- A sum for a 64-bit accumulator (R1); one outside 64 bits is free (log 19). -/
def fit64 (x : Int) : Int := if -(2 ^ 63) ≤ x ∧ x < 2 ^ 63 then x else (Config.fineOverflow x).toInt

/-- The work of an evaluation, from the records as they stand before it (R7, R8). -/
def State.evalWork (s : State) (c : Channel) (h : HeldFbk) : EvalWork :=
  let p := s.params c
  let x := s.ch c
  { rebase := x.ctr.rebasePending
    dDrum := p.drumDir.sign * (fbkDrumCount h.frame - x.ctr.lastDrumCount).toInt * p.sD
    dWheel := p.sheaveDir.sign * (x.ctr.sheaveCounter - x.ctr.lastSheaveCount).toInt * p.sS }

/-- The frame's fields are taken into the channel's records and context (R6, R21). -/
def State.intake (s : State) (c : Channel) (h : HeldFbk) : State :=
  let lost := (s.ch c).ctr.fbkLoss
  let v := clampTo (-20000) 20000 ((s.params c).drumDir.sign * fbkRopeSpeed h.frame)
  let s1 := s.updCh c fun x => { x with ctr := { x.ctr with
    vMeas := v, feedbackValid := true, fbkLoss := false, confirmed := x.ctr.confirmed && !lost,
    c0 := fbkInput h.frame 0, c1 := fbkInput h.frame 1, c2 := fbkInput h.frame 2, c3 := fbkInput h.frame 3,
    reportedPayload := if c = .b then fbkPayload h.frame else x.ctr.reportedPayload,
    lastArrival := h.arrival } }
  s1.when lost (State.fall · c .fbkLoss)

/-- Stage 1 of a re-base evaluation (R7). -/
def State.rebase (s : State) (c : Channel) (h : HeldFbk) : State :=
  let p := s.params c
  let fine := fit64 (p.drumDir.sign * (fbkDrumCount h.frame - BitVec.ofInt 32 p.datum).toInt * p.sD)
  let s1 := s.updCh c fun x => { x with
    prim := { x.prim with drumFine := fine, sheaveFine := if c = .a then fine else x.prim.sheaveFine },
    ctr := { x.ctr with
      rebasePending := false, lastDrumCount := fbkDrumCount h.frame,
      lastSheaveCount := if c = .a then x.ctr.sheaveCounter else x.ctr.lastSheaveCount,
      dDiv := 0, dDivPrev := 0, dBase := 0, creepExcess := false } }
  s1.when (s.ch c).ctr.creepExcess (State.fall · c .creepExcess)

/-- Stages 1 and 2 of an evaluation that does not re-base (R8). -/
def State.accumulate (s : State) (c : Channel) (h : HeldFbk) (w : EvalWork) : State :=
  s.updCh c fun x => { x with
    prim := { x.prim with
      drumFine := fit64 (x.prim.drumFine + w.dDrum),
      sheaveFine := if c = .a then fit64 (x.prim.sheaveFine + w.dWheel) else x.prim.sheaveFine },
    ctr := { x.ctr with
      lastDrumCount := fbkDrumCount h.frame,
      lastSheaveCount := if c = .a then x.ctr.sheaveCounter else x.ctr.lastSheaveCount } }

/-- Stages 1 and 2 (R7, R8): the accumulators, then the depths they give. -/
def State.positions (s : State) (c : Channel) (h : HeldFbk) (w : EvalWork) : State :=
  (if w.rebase then s.rebase c h else s.accumulate c h w).updCh c fun x => { x with
    prim := { x.prim with
      drumDepth := x.prim.drumFine / 2 ^ 20,
      sheaveDepth := if c = .a then x.prim.sheaveFine / 2 ^ 20 else x.prim.sheaveDepth } }

/-- The jump threshold J, mm (R9). -/
def jumpThreshold (p : Params) : Int := Int.tdiv (2 * p.vMax * p.f * p.tNom) 1000000

/-- The jump of an evaluation in mm, where either encoder exceeds the threshold (R9). -/
def State.jump (s : State) (c : Channel) (w : EvalWork) : Option Int :=
  let j := jumpThreshold (s.params c) * 2 ^ 20
  if w.rebase then none
  else if j < mag w.dDrum then some (Int.tdiv w.dDrum (2 ^ 20))
  else if c = .a ∧ j < mag w.dWheel then some (Int.tdiv w.dWheel (2 ^ 20))
  else none

/-- Stage 3 (R9, R41): a jump clears Confirmed and raises COUNT_JUMP at the depth given. -/
def State.checkJump (s : State) (c : Channel) (w : EvalWork) (depth : Depth) : State :=
  match s.jump c w with
  | some mm =>
    let s1 := s.updCh c fun x => { x with ctr := { x.ctr with confirmed := false } }
    (s1.enqueue (s1.event c .countJump (primaryOf c) depth mm)).routeAndJudge s
  | none => s

/-- The rope stretch of the skip (R10). -/
def ropeStretch (drumDepth payload k : Int) : Depth := (max 0 drumDepth * payload * k) / 2 ^ 36

/-- Stage 4 (R10). -/
def State.stretchStage (s : State) (c : Channel) : State :=
  match c with
  | .a => s
  | .b => s.updConv .skip fun x => { x with stretch := ropeStretch x.drumDepth x.payload (s.params .b).k }

/-- Stage 5, the divergence (R12). -/
def State.diverge (s : State) (w : EvalWork) : State :=
  if w.rebase then s
  else s.updCh .a fun x => { x with ctr := { x.ctr with
    dDivPrev := x.ctr.dDiv, dDiv := x.prim.drumDepth - x.prim.sheaveDepth } }

/-- Stage 5, the slip check (R14). -/
def State.checkSlip (s : State) (w : EvalWork) : State :=
  let x := s.chA.ctr
  if w.rebase = false ∧ (s.params .a).slipStep < mag (x.dDiv - x.dDivPrev) then
    s.raiseAndJudge (s.primEvent .a .ropeSlip (x.dDiv - x.dDivPrev))
  else s

/-- Stage 5, the creep check (R13). -/
def State.checkCreep (s : State) : State :=
  let x := s.chA.ctr
  let on := decide ((s.params .a).creepLim < mag (x.dDiv - x.dBase))
  let s1 := s.updCh .a fun y => { y with ctr := { y.ctr with creepExcess := on } }
  (s1.condition x.creepExcess on (s1.primEvent .a .creepExcess (x.dDiv - x.dBase))).routeAndJudge s

/-- Stage 5 (R12 to R14); channel B has none of it. The slip check is made before the creep check: no rule
orders the two events where one evaluation raises both, and this order is the model's choice (log 11). -/
def State.divergenceStages (c : Channel) (w : EvalWork) : List (State → State) :=
  match c with
  | .a => [(State.diverge · w), (State.checkSlip · w), State.checkCreep]
  | .b => []

/-- The base depth of the primary conveyance (R10, R12). -/
def State.baseDepth (s : State) (c : Channel) : Depth :=
  match c with
  | .a => s.chA.prim.sheaveDepth
  | .b => s.chB.prim.drumDepth + s.chB.prim.stretch

/-- The number whose six binary digits are those of `i` in reverse order (R39). -/
def bitrev6 (i : Nat) : Nat :=
  (i % 2) * 32 + (i / 2 % 2) * 16 + (i / 4 % 2) * 8 + (i / 8 % 2) * 4 + (i / 16 % 2) * 2 + i / 32 % 2

/-- The next share of a correction (R39). -/
def Correction.share (k : Correction) : Int := k.sign * ((k.h : Int) + if bitrev6 k.next < k.l then 1 else 0)

/-- A correction after its next share (R39); removed once 64 are delivered. -/
def Correction.advance (k : Correction) : Option Correction :=
  if k.next + 1 < 64 then some { k with next := k.next + 1, delivered := k.delivered + k.share } else none

/-- The share of an evaluation (R15, R39). -/
def shareOf (k : Option Correction) : Int :=
  match k with
  | some r => r.share
  | none => 0

/-- An estimate saturated to the valid range (R15). -/
def saturateDepth (d : Depth) : Depth := clampTo (-30000) 4200000 d

/-- The estimate that stage 6 will form (R15). -/
def State.nextEstimate (s : State) (c : Channel) : Depth :=
  saturateDepth (s.baseDepth c + (s.ch c).prim.corrTotal + shareOf (s.ch c).prim.correction)

/-- Stage 6, the correction share and the estimated depth (R15, R39). -/
def State.deliver (s : State) (c : Channel) : State :=
  let est := s.nextEstimate c
  s.updCh c fun x => { x with prim := { x.prim with
    corrTotal := x.prim.corrTotal + shareOf x.prim.correction,
    correction := x.prim.correction.bind Correction.advance,
    est := est } }

/-- Where a depth lies against a mark entry's capture window (R26, R28): −1 shallower, 0 inside,
1 deeper. -/
def MarkEntry.side (e : MarkEntry) (d : Depth) : Int :=
  if d < e.depth - 4 * e.tol then -1 else if e.depth + 4 * e.tol < d then 1 else 0

/-- Whether an entry's direction allows a travel of its conveyance (R28, R31). -/
def MarkDir.allows (m : MarkDir) (d : Dir) : Bool :=
  match m, d with
  | .both, _ => true
  | .down, .down => true
  | .up, .up => true
  | .down, .up => false
  | .up, .down => false

/-- The arm state after the judgement of one entry (R28, R29), and whether MARK_MISSED is raised. -/
def armAfter (e : MarkEntry) (moving : Bool) (prev present : Depth) (a : ArmState) : ArmState × Bool :=
  match a with
  | .idle =>
    if !moving then (.idle, false)
    else if e.side prev = -1 ∧ 0 ≤ e.side present ∧ e.dir.allows .down then
      (.armed .shallow (decide (e.side present = 1)), false)
    else if e.side prev = 1 ∧ e.side present ≤ 0 ∧ e.dir.allows .up then
      (.armed .deep (decide (e.side present = -1)), false)
    else (.idle, false)
  | .armed side passed =>
    let toward : Int := match side with | .shallow => e.side present | .deep => -(e.side present)
    if toward = -1 then (.idle, false)
    else if passed then (.idle, true)
    else (.armed side (decide (toward = 1)), false)

/-- The present depth of a conveyance at the stage-6 judgement (R27): for the counterweight, the value
that stage 7 writes. -/
def State.judgedDepth (s : State) (v : Conveyance) : Depth :=
  match v with
  | .cage => s.chA.prim.est
  | .cwt => (s.params .a).lBal - s.chA.prim.est
  | .skip => s.chB.prim.est

/-- The judgement of one mark entry at stage 6 (R27 to R29). -/
def State.judgeEntry (c : Channel) (s : State) (i : Nat) : State :=
  match s.active.marks[i]?, s.arms[i]? with
  | some e, some a =>
    if e.valid ∧ convChannel e.conv = c then
      match (s.conv e.conv).lastJudged with
      | some prev =>
        let d := s.judgedDepth e.conv
        let r := armAfter e (s.ch c).state.moving prev d a
        let s1 := { s with arms := s.arms.set i r.1 }
        if r.2 then s1.raise (s1.event c .markMissed e.conv d (i : Int)) else s1
      | none => s
    else s
  | _, _ => s

/-- A conveyance's last judged depth becomes its depth of this evaluation (R27). -/
def State.rememberDepth (s : State) (v : Conveyance) : State :=
  s.updConv v fun x => { x with lastJudged := some (s.judgedDepth v) }

/-- The stage-6 judgement of a channel's entries, in index order (R27). -/
def State.judgeMarks (s : State) (c : Channel) : State :=
  (convsOf c).foldl State.rememberDepth ((List.range 32).foldl (State.judgeEntry c) s)

/-- Stage 7 (R16). -/
def State.deriveCwt (s : State) (c : Channel) : State :=
  match c with
  | .a => s.updConv .cwt fun x => { x with est := (s.params .a).lBal - s.chA.prim.est }
  | .b => s

/-- Stages 6 and 7, between which no commit is applied (R19, R38, log 8). Both estimates of channel A stand
before the mark judgement of stage 6 routes what it raises: nothing ever reads one without the other (R16,
log 8). -/
def State.estimateStage (s : State) (c : Channel) : State :=
  (((s.deliver c).deriveCwt c).judgeMarks c).judgeSince s

/-- Stage 8 (R17). -/
def State.checkReverse (s : State) (c : Channel) : State :=
  let x := s.ch c
  let rest := (s.params c).vRest
  if rest < mag x.ctr.vMeas ∧ rest < mag x.rsv.forwarded ∧ sgn x.ctr.vMeas = -(sgn x.rsv.forwarded) then
    s.raiseAndJudge (s.primEvent c .reverseMotion x.rsv.forwarded)
  else s

/-- A step of the recompute with what it raises routed. -/
def stepRouted (f : State → State) (s : State) : State := (f s).routeAndJudge s

/-- The steps of stage 9, in order (R62). -/
def State.recomputeStages (c : Channel) : List (State → State) :=
  [stepRouted fun s => (s.judgeGroups c).formFactor c,
   stepRouted (State.judgeAlarms · c),
   fun s => (convsOf c).foldl State.lookupConv s,
   fun s => (convsOf c).foldl State.composeConv s,
   (State.formPermits · c),
   (State.updateCeilings · c),
   stepRouted (State.checkOverspeed · c),
   stepRouted (State.judgeBarriers · c),
   stepRouted (State.judgeOverwind · c)]

/-- Clearance (R114): each conveyance stands backout_clearance within its limits. -/
def State.clear (s : State) (c : Channel) : Bool :=
  (convsOf c).all fun v =>
    let p := s.active.convParams v
    let k := (s.params c).clearance
    decide (p.top + k ≤ (s.conv v).est) && decide ((s.conv v).est ≤ p.bottom - k)

/-- Clearance judged (R114). -/
def State.judgeClearance (s : State) (c : Channel) : State :=
  if (s.ch c).state = .backout ∧ s.clear c then s.changeState c .held else s

/-- The judgements at the end of an evaluation (R105, R109, R114), then of a pending commit (R164). -/
def State.closeJudgements (s : State) (c : Channel) : State :=
  let wasHeld := decide ((s.ch c).state = .held)
  ((((s.judgeStopEnd c).routeAll.judgeClearance c).routeAll).judgeAdmission c wasHeld).routeAll.judgeCommit

/-- A commit applied since the evaluation began with one pending (R19). -/
def State.cutShort (s : State) (pend : Bool) : Bool := pend && !s.pendingCommit

/-- The stages are run in order; those left when a commit is applied are not run (R19). -/
def runStages (pend : Bool) : List (State → State) → State → State
  | [], s => s
  | f :: fs, s => if s.cutShort pend then s else runStages pend fs (f s)

/-- Stages 1 to 5 with COUNT_JUMP, where raised, at the depth given (R9). -/
def State.firstStages (c : Channel) (h : HeldFbk) (w : EvalWork) (depth : Depth) : List (State → State) :=
  [fun s => (s.intake c h).positions c h w, (State.checkJump · c w depth), (State.stretchStage · c)]
    ++ State.divergenceStages c w

/-- The stages of an evaluation, in order (R6), with the judgements at its end. -/
def State.stages (c : Channel) (h : HeldFbk) (w : EvalWork) (depth : Depth) : List (State → State) :=
  State.firstStages c h w depth ++ [(State.estimateStage · c), (State.checkReverse · c)]
    ++ State.recomputeStages c ++ [(State.restartFbkGap · c), (State.closeJudgements · c)]

/-- The evaluation of a frame with COUNT_JUMP, where raised, at the depth given (R6 to R19). -/
def State.evaluateAt (s : State) (c : Channel) (h : HeldFbk) (depth : Depth) : State :=
  let s1 := runStages s.pendingCommit (State.stages c h (s.evalWork c h) depth) s
  if s1.cutShort s.pendingCommit then s1 else s1.endUnderway c

/-- The estimate at the end of an evaluation that no commit cuts short (R9). -/
def State.foreseen (s : State) (c : Channel) (h : HeldFbk) : Depth :=
  (((s.intake c h).positions c h (s.evalWork c h)).stretchStage c).nextEstimate c

/-- The evaluation of a frame (R6 to R19). COUNT_JUMP carries the estimate as it stands at the end: where a
commit applied on the way, at whatever stage, leaves another estimate, that one (R9, R19, R22). -/
def State.evaluate (s : State) (c : Channel) (h : HeldFbk) : State :=
  let s1 := s.evaluateAt c h (s.foreseen c h)
  if s1.cutShort s.pendingCommit then s.evaluateAt c h (s1.ch c).prim.est else s1

/-- FEEDBACK_EVALUATION (R6): the evaluation of the frame handed over; with none under way, nothing
(log 7). -/
def execFeedbackEvaluation (t : Micros) (c : Channel) (s : State) : Host.Outcome State Fault Refusal :=
  outOfReset t s fun x =>
    match (x.ch c).underway with
    | some h => x.evaluate c h
    | none => x

end Sys2Proof.Machine
end

