-- ==== Sys2Proof/Machine/Grants.lean ====
section
/-! DEFINITION. The two transmit arbiters: the upstream grant (R171) with the beginning of a soft reset
(R181), and the downstream grant (R98). -/

namespace Sys2Proof.Machine

/-- The check reply is the oldest waiting reply (R171). -/
def CheckReply.oldest (k : Option CheckReply) : Bool :=
  match k with
  | some r => decide (r.older = 0)
  | none => false

/-- A reply has left the reply buffer: one fewer is older than the check reply (R171). -/
def CheckReply.aged (k : Option CheckReply) : Option CheckReply :=
  k.map fun r => { r with older := r.older - 1 }

/-- The upstream port is granted to the next waiting frame (R171). -/
def State.grantUp (s : State) : State :=
  match s.fbkOut with
  | f :: rest => { s with upTx := some ⟨f, false⟩, fbkOut := rest }
  | [] =>
    match s.checkReply, CheckReply.oldest s.checkReply with
    | some k, true => { s with upTx := some ⟨k.frame, false⟩, checkReply := none }
    | _, _ =>
      match s.replies with
      | r :: rest =>
        { s with upTx := some r, replies := rest, checkReply := CheckReply.aged s.checkReply }
      | [] =>
        match s.passUp with
        | f :: rest => { s with upTx := some ⟨f, false⟩, passUp := rest }
        | [] => { s with upTx := none }

/-- The upstream port becomes free: the frame under transmission is complete (R171). The end of the reply
to an accepted SOFT RESET begins the reset instead of a grant (R181). -/
def State.upstreamFree (s : State) : State :=
  match s.upTx with
  | some u => if u.resets then { s with softReset := some s.now }.resetValues else s.grantUp
  | none => s.grantUp

/-- The speed written in a REF frame at its grant (R98). -/
def State.speedAtGrant (s : State) (r : RefItem) : Speed :=
  match (s.ch r.chan).state with
  | .idle => 0
  | .held => 0
  | .ready => 0
  | .tripped => 0
  | .run => s.clamped r.chan r.speed
  | .stopping => s.clamped r.chan r.speed
  | .backout =>
    match (s.ch r.chan).env.backout with
    | some b =>
      if b.dir = some (if 0 < r.speed then Dir.down else .up) then s.clamped r.chan r.speed else 0
    | none => 0

/-- The flags byte of a REF frame at its grant (R89, R95): an originated frame takes the opposite of the
last transmitted toggle. -/
def State.flagsAtGrant (s : State) (r : RefItem) : Byte :=
  if r.originated then (if (s.ch r.chan).rsv.lastTxToggle then r.flags &&& 0xFE else r.flags ||| 0x01)
  else r.flags

/-- The frame a decided reference leaves in (R89, R95, R98). -/
def State.refFrame (s : State) (r : RefItem) : LinkFrame :=
  ⟨r.dest, r.src, LinkFrame.kindRef, refPayload (s.speedAtGrant r) r.control (s.flagsAtGrant r)⟩

/-- A REF frame decided by the RSV is granted the downstream port (R98). -/
def State.grantRef (s : State) (r : RefItem) (rest : List RefItem) : State :=
  let v := s.speedAtGrant r
  let flags := s.flagsAtGrant r
  let s1 := { s with refQueue := rest, downTx := some (s.refFrame r) }.updCh r.chan fun x =>
    { x with rsv := { x.rsv with lastTxToggle := flags.getLsbD 0 } }
  if mag v < mag r.speed then (s1.setForwarded r.chan v).afterForward r.chan else s1

/-- The downstream port becomes free (R98). -/
def State.downstreamFree (s : State) : State :=
  match s.refQueue with
  | r :: rest => s.grantRef r rest
  | [] =>
    match s.passDown with
    | f :: rest => { s with downTx := some f, passDown := rest }
    | [] => { s with downTx := none }

/-- UPSTREAM_PORT_GRANT (R171, R181). -/
def execUpstreamPortGrant (t : Micros) (s : State) : Host.Outcome State Fault Refusal :=
  outOfReset t s State.upstreamFree

/-- DOWNSTREAM_PORT_GRANT (R98). -/
def execDownstreamPortGrant (t : Micros) (s : State) : Host.Outcome State Fault Refusal :=
  outOfReset t s State.downstreamFree

end Sys2Proof.Machine
end

