-- ==== Sys2Proof/Machine/Inputs.lean ====
section
/-! DEFINITION. The discrete inputs: the measuring wheel (R5), the mark lines with the matching of a mark edge
(R24, R25, R31 to R37), the permit lines (R116, R117) and the readbacks (R140, R141, R143). -/

namespace Sys2Proof.Machine

/-- A command that acts in reset as well: the part's pins are followed there (R182, log 30). -/
def atAnyTime (t : Micros) (s : State) (f : State → State) : Host.Outcome State Fault Refusal :=
  .next (f (s.advance t)).settle

/-- The place of a pair of phase levels in the sequence 00, 10, 11, 01 (R5). -/
def phasePlace (p1 p2 : Bool) : Nat :=
  match p1, p2 with
  | false, false => 0
  | true, false => 1
  | true, true => 2
  | false, true => 3

/-- The step of the sheave counter at a change of phase levels (R5): +1 along the sequence, −1 in reverse,
0 where both phases change or neither does. -/
def wheelStep (old new : Bool × Bool) : BitVec 32 :=
  let d := (phasePlace new.1 new.2 + 4 - phasePlace old.1 old.2) % 4
  if d = 1 then 1 else if d = 3 then -1 else 0

/-- The phases come to new levels (R5); in reset no transition is counted. -/
def State.turnWheel (s : State) (p1 p2 : Bool) : State :=
  let step := if s.inReset then 0 else wheelStep (s.phase1, s.phase2) (p1, p2)
  { s with phase1 := p1, phase2 := p2 }.updCh .a fun x =>
    { x with ctr := { x.ctr with sheaveCounter := x.ctr.sheaveCounter + step } }

/-- An input's filter after its raw level changes, in reset or out of it (R24, R182). -/
def State.filterChange (s : State) (f : InputFilter) (level : Bool) : InputFilter :=
  if s.inReset then f.track level else f.change level s.now

/-- One member of a list changed. -/
def changeAt (fs : List InputFilter) (i : Nat) (f : InputFilter → InputFilter) : List InputFilter :=
  match fs[i]? with
  | some x => fs.set i (f x)
  | none => fs

/-- A candidate of the matching (R33): the entry's index, the entry and its extrapolated depth. -/
structure Candidate where
  index : Nat
  entry : MarkEntry
  edge  : Depth
  deriving DecidableEq, Repr

/-- The own velocity of a conveyance (R31). -/
def State.ownVelocity (s : State) (v : Conveyance) : Speed :=
  let x := (s.ch (convChannel v)).ctr.vMeas
  if v = .cwt then -x else x

/-- An entry on a line is eligible for an edge (R31). -/
def State.eligible (s : State) (line : Nat) (e : MarkEntry) : Bool :=
  let c := convChannel e.conv
  e.valid && decide (e.line = line) && s.active.inUse c && (s.ch c).state.moving
    && (s.ch c).ctr.feedbackValid && decide ((s.params c).vRest < mag (s.ch c).ctr.vMeas)
    && e.dir.allows (if 0 < s.ownVelocity e.conv then .down else .up)

/-- A conveyance's depth extrapolated to an edge time (R32). -/
def State.extrapolate (s : State) (v : Conveyance) (edge : Micros) : Depth :=
  let c := convChannel v
  let dt := min ((edge : Int) - ((s.ch c).ctr.lastArrival : Int)) ((s.params c).f * (s.params c).tNom)
  (s.conv v).est + Int.tdiv (s.ownVelocity v * dt) 1000000

/-- The candidates of an edge, in index order (R31, R32). -/
def State.candidates (s : State) (line : Nat) (edge : Micros) : List Candidate :=
  (List.range 32).filterMap fun i =>
    match s.active.marks[i]? with
    | some e => if s.eligible line e then some ⟨i, e, s.extrapolate e.conv edge⟩ else none
    | none => none

/-- The distance of a candidate (R33). -/
def Candidate.distance (k : Candidate) : Int := mag (k.entry.depth - k.edge)

/-- The candidate of smallest distance, ties to the lowest index (R33). -/
def nearest : List Candidate → Option Candidate
  | [] => none
  | k :: rest => match nearest rest with
    | none => some k
    | some m => if m.distance < k.distance then some m else some k

/-- The correction record of a correction (R39). -/
def Correction.start (c : Int) : Correction := ⟨sgn c, (mag c).toNat / 64, (mag c).toNat % 64, 0, 0⟩

/-- A conveyance's record is given the last accepted mark (R34). -/
def State.setLastMark (s : State) (v : Conveyance) (i : Nat) : State :=
  s.updConv v fun x => { x with lastMark := some i }

/-- D_base is set to the current D_div, and CREEP_EXCESS falls (R13, R34). -/
def State.rebaseCreep (s : State) (c : Channel) : State :=
  match c with
  | .b => s
  | .a =>
    (s.updCh .a fun x => { x with ctr := { x.ctr with dBase := x.ctr.dDiv, creepExcess := false } }).when
      s.chA.ctr.creepExcess (State.fall · .a .creepExcess)

/-- A mark is accepted (R34, R35, R40). -/
def State.acceptMark (s : State) (k : Candidate) : State :=
  let c := convChannel k.entry.conv
  let e := k.entry.depth - k.edge
  let s1 := s.updCh c fun x => { x with
    prim := { x.prim with
      correction := some (Correction.start (if k.entry.conv = .cwt then -e else e)) },
    ctr := { x.ctr with confirmed := true } }
  let s2 := { s1 with arms := s1.arms.set k.index .idle }
  (s2.setLastMark k.entry.conv k.index).rebaseCreep c

/-- A mark disagrees (R36). -/
def State.disagree (s : State) (k : Candidate) : State :=
  let c := convChannel k.entry.conv
  let s1 := s.updCh c fun x => { x with ctr := { x.ctr with confirmed := false } }
  let s2 := { s1 with arms := s1.arms.set k.index .idle }
  s2.raise (s2.event c .markDisagree k.entry.conv k.edge (k.entry.depth - k.edge))

/-- MARK_UNEXPECTED for a channel with an eligible entry (R37). -/
def State.unexpected (s : State) (ks : List Candidate) (c : Channel) : State :=
  match nearest (ks.filter fun k => decide (convChannel k.entry.conv = c)) with
  | some k => s.raise (s.event c .markUnexpected k.entry.conv k.edge (k.entry.depth - k.edge))
  | none => s

/-- A mark edge is matched and handled whole (R31 to R37), then a pending commit is judged (R164). -/
def State.markEdge (s : State) (line : Nat) (edge : Micros) : State :=
  let ks := s.candidates line edge
  (match nearest ks with
   | none => s
   | some k =>
     if k.distance ≤ k.entry.tol then s.acceptMark k
     else if k.distance ≤ 4 * k.entry.tol then s.disagree k
     else (s.unexpected ks .a).unexpected ks .b).judgeSince s

/-- A mark line's filter accepts its change, if it is due (R24, R25). -/
def State.acceptMarkLine (s : State) (line : Nat) : State :=
  match s.markFilters[line]? with
  | none => s
  | some f =>
    match f.due s.now with
    | none => s
    | some edge =>
      let s1 := { s with markFilters := s.markFilters.set line f.accepted }
      if f.accepted.filtered && !f.filtered then s1.markEdge line edge else s1

/-- A permit line's filter accepts its change, if it is due (R116); a heeded line is judged (R117). -/
def State.acceptPermitLine (s : State) (c : Channel) (line : Nat) : State :=
  match (s.ch c).permits[line]? with
  | none => s
  | some f =>
    match f.due s.now with
    | none => s
    | some _ =>
      let s1 := s.updCh c fun x => { x with permits := x.permits.set line f.accepted }
      if (s.params c).permitEn.getLsbD line then (s1.judgePermits c).routeAndJudge s else s1

/-- A readback's filter accepts its change, if it is due (R140, R141, R143). -/
def State.acceptReadback (s : State) (c : Channel) : State :=
  match (s.ch c).line.readback.due s.now with
  | none => s
  | some _ =>
    let s1 := s.updCh c fun x => { x with line := x.line.readbackAccepted s.now (s.rbWindow c) }
    s1.when ((s.ch c).line.stuck && !(s1.ch c).line.stuck) (State.fall · c .triplineStuck)

/-- MEASURING_WHEEL_TRANSITION (R5). -/
def execMeasuringWheelTransition (t : Micros) (p1 p2 : Bool) (s : State) :
    Host.Outcome State Fault Refusal :=
  atAnyTime t s (State.turnWheel · p1 p2)

/-- MARK_INPUT_CHANGE (R24). -/
def execMarkInputChange (t : Micros) (line : Nat) (level : Bool) (s : State) :
    Host.Outcome State Fault Refusal :=
  atAnyTime t s fun x => { x with markFilters := changeAt x.markFilters line (x.filterChange · level) }

/-- MARK_FILTER_ACCEPT (R24, R25). -/
def execMarkFilterAccept (t : Micros) (line : Nat) (s : State) : Host.Outcome State Fault Refusal :=
  outOfReset t s (State.acceptMarkLine · line)

/-- PERMIT_INPUT_CHANGE (R116). -/
def execPermitInputChange (t : Micros) (c : Channel) (line : Nat) (level : Bool) (s : State) :
    Host.Outcome State Fault Refusal :=
  atAnyTime t s fun x => x.updCh c fun y =>
    { y with permits := changeAt y.permits line (x.filterChange · level) }

/-- PERMIT_FILTER_ACCEPT (R116, R117). -/
def execPermitFilterAccept (t : Micros) (c : Channel) (line : Nat) (s : State) :
    Host.Outcome State Fault Refusal :=
  outOfReset t s (State.acceptPermitLine · c line)

/-- READBACK_INPUT_CHANGE (R140). -/
def execReadbackInputChange (t : Micros) (c : Channel) (level : Bool) (s : State) :
    Host.Outcome State Fault Refusal :=
  atAnyTime t s fun x => x.updCh c fun y =>
    { y with line := { y.line with readback := x.filterChange y.line.readback level } }

/-- READBACK_FILTER_ACCEPT (R140, R141). -/
def execReadbackFilterAccept (t : Micros) (c : Channel) (s : State) : Host.Outcome State Fault Refusal :=
  outOfReset t s (State.acceptReadback · c)

end Sys2Proof.Machine
end

