-- ==== Sys2Proof/Machine/Link.lean ====
section
/-! DEFINITION. Taking in frames (R168 to R170): the sorting of a frame on either port, the Reference
Supervisor's handling of a REF frame (R80 to R89), the hand-over of an FBK frame (R6), the request queue
(R175), and the five commands of the link. -/

namespace Sys2Proof.Machine

/-- The in-use channel of a drive address (R170). -/
def State.channelAt (s : State) (a : Byte) : Option Channel :=
  if s.active.inUse .a && decide ((s.params .a).driveAddr = (a.toNat : Int)) then some .a
  else if s.active.inUse .b && decide ((s.params .b).driveAddr = (a.toNat : Int)) then some .b
  else none

/-- The error count of a port increases (R169). -/
def State.badOn (s : State) (p : Port) : State :=
  match p with
  | .up => { s with errUp := bump s.errUp }
  | .down => { s with errDown := bump s.errDown }

/-- The spacing check (R81): the frame arrives less than T_nom / 4 after the last accepted arrival. The
quotient is taken exactly, since no rule rounds it: the model's choice (log 41). -/
def State.tooEarly (s : State) (c : Channel) : Bool :=
  match (s.ch c).rsv.lastAccepted with
  | some t => decide (4 * ((s.now - t : Nat) : Int) < (s.params c).tNom)
  | none => false

/-- The µs since the last accepted arrival (R100). -/
def State.sinceAccepted (s : State) (c : Channel) : Int :=
  match (s.ch c).rsv.lastAccepted with
  | some t => ((s.now - t : Nat) : Int)
  | none => 0

/-- A controller frame is forwarded with a speed (R89): only the speed and the substitute flag change. -/
def State.forward (s : State) (c : Channel) (f : LinkFrame) (v : Speed) : State :=
  (s.setForwarded c v).joinRef
    { chan := c, dest := f.dest, src := f.src, speed := v, control := refControl f,
      flags := refFlags f &&& 0xFD, originated := false }

/-- A frame that has passed the spacing check keeps its control byte and SRC (R82). -/
def State.keepController (s : State) (c : Channel) (f : LinkFrame) : State :=
  s.updCh c fun x => { x with rsv := { x.rsv with
    lastControl := refControl f, lastController := f.src } }

/-- A stale frame (R82, R96). -/
def State.staleRef (s : State) (c : Channel) (f : LinkFrame) : State :=
  if (s.ch c).rsv.substituting then s.raiseAndJudge (s.primEvent c .refStale 0)
  else
    let v := s.clamped c (s.ch c).rsv.forwarded
    ((s.forward c f v).raise (s.primEvent c .refStale v)).afterForward c

/-- Steps 1 to 3 of an accepted frame (R83). -/
def State.acceptRef (s : State) (c : Channel) (f : LinkFrame) : State :=
  let s1 := s.updCh c fun x => { x with rsv := { x.rsv with
    lastAccepted := some s.now, lastToggle := some (refToggle f), linkLoss := false } }
  (s1.when (s.ch c).rsv.linkLoss (State.fall · c .linkLoss)).restartGap c

/-- A frame forwarded with the clamped speed, REF_CLAMPED following where that is smaller (R85, R86, R88).
What has waited is routed between the two (log 34). -/
def State.forwardClamped (s : State) (c : Channel) (f : LinkFrame) (req : Speed) : State :=
  let v := s.clamped c req
  let s1 := (s.forward c f v).routeAll
  if mag v < mag req then s1.raise (s1.primEvent c .refClamped req) else s1

/-- A frame forwarded as 0 with REF_BLOCKED (R85, R88). -/
def State.forwardBlocked (s : State) (c : Channel) (f : LinkFrame) (req : Speed) : State :=
  let s1 := s.forward c f 0
  s1.raise (s1.primEvent c .refBlocked req)

/-- The start conditions of a wind (R85). -/
def State.mayStart (s : State) (c : Channel) (req : Speed) : Bool :=
  !s.hasBlocking c && (s.lostPermits c).isEmpty && (s.ch c).ctr.feedbackValid
    && decide (0 < s.permitOf c req)

/-- The end of a wind (R86): an accepted zero request in RUN with the channel at rest. -/
def State.endWind (s : State) (c : Channel) : State :=
  if (s.ch c).state = .run ∧ s.atRest c then
    (s.changeState c .ready).updCh c fun x => { x with rsv := { x.rsv with lossCount := 0 } }
  else s

/-- Whether a request points in the backout direction (R88). -/
def State.towardClear (s : State) (c : Channel) (v : Speed) : Bool :=
  match (s.ch c).env.backout with
  | some b => decide (b.dir = some (if 0 < v then Dir.down else .up))
  | none => false

/-- The action on an accepted frame, by the channel's state (R84 to R88). -/
def State.actRef (s : State) (c : Channel) (f : LinkFrame) (req : Speed) : State :=
  match (s.ch c).state with
  | .idle => s
  | .held => s.forward c f 0
  | .tripped => s.forward c f 0
  | .ready =>
    if req = 0 then s.forward c f 0
    else if s.mayStart c req then (s.changeState c .run).forwardClamped c f req
    else s.forwardBlocked c f req
  | .run =>
    if req = 0 then ((s.forward c f 0).endWind c) else s.forwardClamped c f req
  | .stopping => s.forward c f (s.rampSpeed c)
  | .backout =>
    if req = 0 then s.forward c f 0
    else if s.towardClear c req then s.forwardClamped c f req
    else s.forwardBlocked c f req

/-- The Reference Supervisor handles a REF frame whole (R80 to R89, R96), then the end of a stop (R109),
admission (R105) and a pending commit (R164) are judged. The end of a stop is judged after the events of the
same frame are routed, so that a channel its own frame's event has put into STOPPING may come to HELD at once:
the model's choice (log 33). -/
def State.handleRef (s : State) (c : Channel) (f : LinkFrame) : State :=
  if s.tooEarly c then s.raiseAndJudge (s.primEvent c .refEarly (s.sinceAccepted c))
  else
    let s1 := s.keepController c f
    if (s.ch c).rsv.lastToggle = some (refToggle f) then s1.staleRef c f
    else
      let s2 := s1.acceptRef c f
      if (s.ch c).rsv.substituting then s2
      else
        let vMax := (s.params c).vMax
        let s3 := ((s2.actRef c f (clampTo (-vMax) vMax (refSpeed f))).routeAll.judgeStopEnd c).routeAll
        (s3.judgeAdmission c (decide ((s.ch c).state = .held))).routeAll.judgeCommit

/-- A feedback frame is handed over, waits, or is lost and counted (R6). -/
def State.handOver (s : State) (c : Channel) (f : LinkFrame) : State :=
  if (s.ch c).underway.isNone then s.updCh c fun x => { x with underway := some ⟨f, s.now⟩ }
  else if (s.ch c).place.isNone then s.updCh c fun x => { x with place := some ⟨f, s.now⟩ }
  else { s with ovUp := bump s.ovUp }

/-- The request of an MREQ frame (R177). -/
def requestOf (f : LinkFrame) : Request :=
  ⟨f.src, byteAt f.payload 0, byteAt f.payload 1, f.payload.drop 2⟩

/-- A request joins the queue, is answered BUSY, or is lost and counted (R175). -/
def State.queueRequest (s : State) (q : Request) : State :=
  if s.requests.length < 4 then { s with requests := s.requests ++ [q] }
  else if s.replies.length < 4 then s.reply q .busy []
  else { s with ovUp := bump s.ovUp }

/-- A frame of right length and CRC taken in on the upstream port (R169, R170). -/
def State.takeUp (s : State) (f : LinkFrame) : State :=
  if 60 < f.payload.length then s.badOn .up
  else if f.kind = LinkFrame.kindRef ∧ (s.channelAt f.dest).isSome then
    match s.channelAt f.dest with
    | some c => if f.payload.length = 4 then s.handleRef c f else s.badOn .up
    | none => s
  else if f.kind = LinkFrame.kindMreq ∧ f.dest = s.linkAddr then
    if f.payload.length < 2 then s.badOn .up else s.queueRequest (requestOf f)
  else s.passDownstream f

/-- A frame of right length and CRC taken in on the downstream port (R169, R170). -/
def State.takeDown (s : State) (f : LinkFrame) : State :=
  if 60 < f.payload.length then s.badOn .down
  else if f.kind = LinkFrame.kindFbk ∧ (s.channelAt f.src).isSome then
    match s.channelAt f.src with
    | some c => if f.payload.length = 17 then s.handOver c f else s.badOn .down
    | none => s
  else s.passUpstream f

/-- A frame taken in on a port (R170). -/
def State.takeIn (s : State) (p : Port) (f : LinkFrame) : State :=
  match p with
  | .up => s.takeUp f
  | .down => s.takeDown f

/-- REF_FRAME_RECEIVED (R80). -/
def execRefFrameReceived (t : Micros) (f : LinkFrame) (s : State) : Host.Outcome State Fault Refusal :=
  outOfReset t s (State.takeUp · f)

/-- FBK_FRAME_RECEIVED (R4, R6). -/
def execFbkFrameReceived (t : Micros) (f : LinkFrame) (s : State) : Host.Outcome State Fault Refusal :=
  outOfReset t s (State.takeDown · f)

/-- MREQ_RECEIVED (R175). -/
def execMreqReceived (t : Micros) (f : LinkFrame) (s : State) : Host.Outcome State Fault Refusal :=
  outOfReset t s (State.takeIn · .up f)

/-- PASS_THROUGH_FRAME (R170). -/
def execPassThroughFrame (t : Micros) (p : Port) (f : LinkFrame) (s : State) :
    Host.Outcome State Fault Refusal :=
  outOfReset t s (State.takeIn · p f)

/-- BAD_FRAME (R169): a run of bytes on a port. One that spells a good frame is sorted (log 6). -/
def execBadFrame (t : Micros) (p : Port) (bytes : List Byte) (s : State) :
    Host.Outcome State Fault Refusal :=
  outOfReset t s fun x =>
    match parseFrame bytes with
    | some f => x.takeIn p f
    | none => x.badOn p

end Sys2Proof.Machine
end

