-- ==== Sys2Proof/Machine/Reads.lean ====
section
/-! DEFINITION. The requests that read: STATUS (R178), CONVEYANCE READ (R179), and the answer to an
ill-formed request (R175). -/

namespace Sys2Proof.Machine

/-- A set of bits as a number, the n-th member of the list being bit n (R177). -/
def flagBytes : List FlagState → List Byte
  | a :: b :: c :: d :: rest =>
    fieldU8 (a.code + 4 * b.code + 16 * c.code + 64 * d.code : Nat) ++ flagBytes rest
  | _ => []

/-- The filtered levels of a group of inputs (R178). -/
def levels (fs : List InputFilter) : List Bool := fs.map InputFilter.filtered

/-- The data of STATUS (R178), in the widths of R177 (log 14). -/
def State.statusData (s : State) : List Byte :=
  fieldU32 (s.linkAddr.toNat : Int)
    ++ fieldU8 s.chA.state.code ++ fieldU8 s.chB.state.code ++ fieldU8 s.chA.plane ++ fieldU8 s.chB.plane
    ++ fieldBool s.activeLoaded ++ fieldU8 s.shadowState.code ++ fieldBool s.pendingCommit
    ++ fieldU32 s.seq ++ fieldU32 s.notices.length ++ fieldBool s.noticesLost
    ++ flagBytes s.chA.flags ++ flagBytes s.chB.flags
    ++ fieldU32 s.chA.rsv.lossCount ++ fieldU32 s.chB.rsv.lossCount
    ++ fieldU16 (setBits (levels s.markFilters))
    ++ fieldU16 (setBits (levels (s.chA.permits ++ s.chB.permits)))
    ++ fieldBool s.chA.line.closed ++ fieldBool s.chB.line.closed
    ++ fieldBool s.chA.line.readback.filtered ++ fieldBool s.chB.line.readback.filtered
    ++ fieldBool s.masterClosed
    ++ fieldU16 s.errUp ++ fieldU16 s.errDown ++ fieldU16 s.ovDown ++ fieldU16 s.ovUp

/-- A pending correction as data (R39, R177, R179, log 15). -/
def correctionBytes (k : Option Correction) : List Byte :=
  match k with
  | some r => fieldBool true ++ fieldS8 r.sign ++ fieldU8 r.h ++ fieldU8 r.l ++ fieldU8 r.next
      ++ fieldS32 r.delivered
  | none => fieldBool false ++ fieldS8 0 ++ fieldU8 0 ++ fieldU8 0 ++ fieldU8 0 ++ fieldS32 0

/-- An optional index as data (R177). -/
def optionalIndex (i : Option Nat) : List Byte :=
  match i with
  | some n => fieldBool true ++ fieldU8 n
  | none => fieldBool false ++ fieldU8 0

/-- The data of CONVEYANCE READ (R179). -/
def State.convData (s : State) (v : Conveyance) : List Byte :=
  let x := s.conv v
  let k := (s.ch (convChannel v)).ctr
  fieldS32 x.est ++ fieldS32 x.drumDepth ++ fieldS32 x.sheaveDepth ++ fieldS32 x.corrTotal
    ++ fieldU32 x.payload ++ fieldS32 x.stretch ++ fieldS16 k.vMeas
    ++ fieldBool k.feedbackValid ++ fieldBool k.confirmed
    ++ correctionBytes x.correction ++ optionalIndex x.lastMark
    ++ fieldS32 (if v = .skip then 0 else k.dDiv) ++ fieldS32 (if v = .skip then 0 else k.dBase)
    ++ fieldS16 x.profDown ++ fieldS16 x.profUp ++ fieldS16 x.permitDown ++ fieldS16 x.permitUp
    ++ fieldBool x.inBarrier

/-- STATUS, by its rule (R178). -/
def runStatus (q : Request) (s : State) : State := s.reply q .ok s.statusData

/-- CONVEYANCE READ, by its rule (R179). -/
def runConveyanceRead (conv : Nat) (q : Request) (s : State) : State :=
  match convOfCode conv with
  | some v => s.reply q .ok (s.convData v)
  | none => s.reply q .refusedRange []

/-- STATUS (R178). -/
def execStatus (t : Micros) (s : State) : Host.Outcome State Fault Refusal :=
  outOfReset t s (State.engine · fun
    | .status => some runStatus
    | _ => none)

/-- CONVEYANCE READ (R179). -/
def execConveyanceRead (t : Micros) (s : State) : Host.Outcome State Fault Refusal :=
  outOfReset t s (State.engine · fun
    | .conveyanceRead v => some (runConveyanceRead v)
    | _ => none)

/-- An ill-formed head request is answered BAD_REQUEST (R175). -/
def State.answerBad (s : State) : State :=
  match s.headRequest with
  | some q =>
    match decodeReq q.code q.params with
    | some _ => s
    | none => s.takeRequest.reply q .badRequest []
  | none => s

/-- BAD_REQUEST (R175). -/
def execBadRequest (t : Micros) (s : State) : Host.Outcome State Fault Refusal :=
  outOfReset t s State.answerBad

end Sys2Proof.Machine
end

