-- ==== Sys2Proof/Machine/Requests.lean ====
section
/-! DEFINITION. The requests of the channels: DUTY (R46, R47), CLEAR (R130, R111), BACKOUT (R112, R113),
EVENT INJECT (R129) and SOFT RESET (R181). -/

namespace Sys2Proof.Machine

/-- A conveyance's profile limits become 0 (R47). -/
def State.zeroLimits (s : State) (v : Conveyance) : State :=
  s.updConv v fun x => { x with profDown := 0, profUp := 0 }

/-- An accepted DUTY request (R47). -/
def State.acceptDuty (s : State) (c : Channel) (plane : Nat) : State :=
  let s1 := s.updCh c fun x => { x with plane := plane, env := { x.env with pDown := 0, pUp := 0 } }
  let s2 := (convsOf c).foldl State.zeroLimits s1
  if (s.ch c).state = .ready then s2.moveTo c .held else s2

/-- DUTY, by its rule (R46). -/
def runDuty (chan plane : Nat) (q : Request) (s : State) : State :=
  match channelOfCode chan with
  | none => s.reply q .refusedRange []
  | some c =>
    if 3 < plane then s.reply q .refusedRange (fieldU8 (s.ch c).plane)
    else if (s.ch c).state.moving then s.reply q .refusedMoving (fieldU8 (s.ch c).plane)
    else (s.acceptDuty c plane).reply q .ok (fieldU8 plane)

/-- A TRIPPED channel may go to HELD under CLEAR (R111). -/
def State.mayLeaveTripped (s : State) (c : Channel) : Bool :=
  decide ((s.ch c).state = .tripped) && !s.hasTripBlocking c && s.atRest c
    && !(s.ch c).line.readback.filtered

/-- Steps 1 to 3 of a CLEAR (R130): the flags, the loss count, the notices-lost status. -/
def State.clearMarks (s : State) (c : Channel) : State :=
  { s with noticesLost := false }.updCh c fun x =>
    { x.clearGone with rsv := { x.rsv with lossCount := 0 } }

/-- Step 4 of a CLEAR (R111, R130). -/
def State.judgeTripped (s : State) (c : Channel) : State :=
  if s.mayLeaveTripped c then s.changeState c .held else s

/-- A CLEAR of a channel (R130), then a pending commit (R164). -/
def State.clearChannel (s : State) (c : Channel) : State :=
  (((s.clearMarks c).judgeTripped c).judgeMaster).routeAndJudge s

/-- The number of a channel's flags still set (R130). -/
def Chan.flagsSet (x : Chan) : Nat := x.flags.countP FlagState.isSet

/-- CLEAR, by its rule (R130). -/
def runClear (chan : Nat) (q : Request) (s : State) : State :=
  match channelOfCode chan with
  | none => s.reply q .refusedRange []
  | some c =>
    let s1 := s.clearChannel c
    s1.reply q .ok (fieldU8 (s1.ch c).state.code ++ fieldU32 (s1.ch c).flagsSet)

/-- Some other state source of the channel has its live condition true (R112 check 4). -/
def Chan.otherLive (x : Chan) : Bool :=
  Source.all.any fun src =>
    decide (src ≠ .overwindDeep) && decide (src ≠ .overwindHigh) && x.live src

/-- A BOTH-scoped blocking flag of the other channel is set (R112 check 4). -/
def State.blockedByOther (s : State) (c : Channel) : Bool :=
  Source.all.any (blocks s.active c (otherChannel c) (s.ch (otherChannel c)) .stop)

/-- Checks 2 to 6 of a BACKOUT request (R112). -/
def State.mayBackout (s : State) (c : Channel) : Bool :=
  let x := s.ch c
  decide (x.state = .tripped) && (x.env.overDeep || x.env.overHigh)
    && !x.otherLive && !s.blockedByOther c && s.atRest c && (s.lostPermits c).isEmpty

/-- The flags an accepted BACKOUT request clears (R113): those whose conditions are gone, and both overwind
flags. -/
def Chan.clearForBackout (x : Chan) : Chan :=
  { x with flags := (List.zip Source.all x.flags).map fun (src, f) =>
      if src = .overwindDeep ∨ src = .overwindHigh ∨ x.live src = false then .clear else f }

/-- An accepted BACKOUT request (R113), then a pending commit (R164). -/
def State.acceptBackout (s : State) (c : Channel) : State :=
  ((s.updCh c Chan.clearForBackout).changeState c .backout).routeAndJudge s

/-- BACKOUT, by its rule (R112). -/
def runBackout (chan : Nat) (q : Request) (s : State) : State :=
  match channelOfCode chan with
  | none => s.reply q .refusedRange []
  | some c =>
    if s.mayBackout c then
      let s1 := s.acceptBackout c
      s1.reply q .ok (fieldU8 (s1.ch c).state.code)
    else s.reply q .refusedState (fieldU8 (s.ch c).state.code)

/-- The event of an injection (R129). -/
def State.injected (s : State) (c : Channel) (src : Source) : Raised :=
  let x := s.ch c
  { chan := c, src := src, injected := true, conv := some (primaryOf c),
    depth := if x.ctr.feedbackValid then some x.prim.est else none,
    speed := if x.ctr.feedbackValid then some x.ctr.vMeas else none,
    value := none }

/-- The source an EVENT INJECT names, where its channel has it (R129). -/
def injectable (c : Channel) (n : Nat) : Option Source :=
  if c = .b ∧ (n = 5 ∨ n = 10) then none else Source.ofNum n

/-- EVENT INJECT, by its rule (R129). -/
def runEventInject (chan n : Nat) (q : Request) (s : State) : State :=
  match channelOfCode chan with
  | none => s.reply q .refusedRange []
  | some c =>
    match injectable c n with
    | none => s.reply q .refusedRange []
    | some src =>
      if (s.ch c).state = .idle then s.reply q .refusedState []
      else
        let s1 := s.raiseAndJudge (s.injected c src)
        let seq := if (s.active.route c src).notify then fieldBool true ++ fieldU32 s.seq
          else fieldBool false ++ fieldU32 0
        s1.reply q .ok (seq ++ fieldU8 (s1.ch c).state.code)

/-- SOFT RESET, by its rule (R181): the accepted request's reply is the one whose end begins the reset. -/
def runSoftReset (q : Request) (s : State) : State :=
  if s.standsAtRest .a && s.standsAtRest .b then
    { s with replies := s.replies ++ [⟨replyFrame s.linkAddr q.src q.code q.tag .ok [], true⟩] }
  else s.reply q .refusedMoving []

/-- DUTY (R46, R47). -/
def execDuty (t : Micros) (s : State) : Host.Outcome State Fault Refusal :=
  outOfReset t s (State.engine · fun
    | .duty c p => some (runDuty c p)
    | _ => none)

/-- CLEAR (R130). -/
def execClear (t : Micros) (s : State) : Host.Outcome State Fault Refusal :=
  outOfReset t s (State.engine · fun
    | .clear c => some (runClear c)
    | _ => none)

/-- BACKOUT (R112, R113). -/
def execBackout (t : Micros) (s : State) : Host.Outcome State Fault Refusal :=
  outOfReset t s (State.engine · fun
    | .backout c => some (runBackout c)
    | _ => none)

/-- EVENT INJECT (R129). -/
def execEventInject (t : Micros) (s : State) : Host.Outcome State Fault Refusal :=
  outOfReset t s (State.engine · fun
    | .eventInject c n => some (runEventInject c n)
    | _ => none)

/-- SOFT RESET (R181). -/
def execSoftReset (t : Micros) (s : State) : Host.Outcome State Fault Refusal :=
  outOfReset t s (State.engine · fun
    | .softReset => some runSoftReset
    | _ => none)

end Sys2Proof.Machine
end

