-- ==== Sys2Proof/Machine/Resets.lean ====
section
/-! DEFINITION. The three resets of the part (R182, R120, R148): their beginnings and their ends. -/

namespace Sys2Proof.Machine

/-- A reset has ended where none of the three holds the part any longer (R182, log 29). -/
def State.endIfFree (s : State) (straps : BitVec 4) : State :=
  if s.inReset then s else s.resetEnds straps

/-- Power-up (R182): the part is in reset, and a SOFT RESET's period is over with the rest. -/
def State.powerUp (s : State) : State := { s with powerReset := true, softReset := none }.resetValues

/-- The supply becomes established (R182). -/
def State.supplyUp (s : State) (straps : BitVec 4) : State :=
  if s.powerReset then { s with powerReset := false }.endIfFree straps else s

/-- The RESET input is asserted (R182). -/
def State.assertReset (s : State) : State := { s with inputReset := true }.resetValues

/-- The RESET input is deasserted (R182). -/
def State.deassertReset (s : State) (straps : BitVec 4) : State :=
  if s.inputReset then { s with inputReset := false }.endIfFree straps else s

/-- The 1,000 µs of a SOFT RESET have run out (R182). -/
def State.softResetEnds (s : State) (straps : BitVec 4) : State :=
  match s.softReset with
  | some since =>
    if since + 1000 ≤ s.now then { s with softReset := none }.endIfFree straps else s
  | none => s

/-- POWER_ON (R182). -/
def execPowerOn (t : Micros) (s : State) : Host.Outcome State Fault Refusal :=
  .next (s.advance t).powerUp

/-- SUPPLY_ESTABLISHED (R182). -/
def execSupplyEstablished (t : Micros) (straps : BitVec 4) (s : State) : Host.Outcome State Fault Refusal :=
  .next ((s.advance t).supplyUp straps)

/-- RESET_INPUT_ASSERTED (R182). -/
def execResetInputAsserted (t : Micros) (s : State) : Host.Outcome State Fault Refusal :=
  .next (s.advance t).assertReset

/-- RESET_INPUT_DEASSERTED (R182). -/
def execResetInputDeasserted (t : Micros) (straps : BitVec 4) (s : State) :
    Host.Outcome State Fault Refusal :=
  .next ((s.advance t).deassertReset straps)

/-- SOFT_RESET_PERIOD_END (R182). -/
def execSoftResetPeriodEnd (t : Micros) (straps : BitVec 4) (s : State) :
    Host.Outcome State Fault Refusal :=
  .next ((s.advance t).softResetEnds straps)

end Sys2Proof.Machine
end

