-- ==== Sys2Proof/Machine/Restrict.lean ====
section
/-! DEFINITION. The restriction table's requests: RESTRICT READ (R180) and RESTRICT WRITE (R65, R66). -/

namespace Sys2Proof.Machine

/-- The fields of a write with valid YES lie in their ranges (R63, R65 order 1). -/
def RestrictFields.fits (r : RestrictFields) : Bool :=
  decide (10 ≤ r.k) && decide (r.k ≤ 21) && inRange (0, 4200000) r.base && decide (r.base % 2 ^ r.k = 0)
    && inRange (0, 20000) r.cap && decide (0 < r.mask) && decide (r.mask < 8)

/-- The conveyances of an entry's mask that are in use in the active bank (R63). -/
def State.concerned (s : State) (m : ConvSet) : List Conveyance :=
  [Conveyance.cage, .cwt, .skip].filter fun v => m.has v && s.active.convInUse v

/-- Another valid entry has the same base and k (R65 order 2). -/
def State.duplicates (s : State) (index : Nat) (e : Restriction) : Bool :=
  (List.range 8).any fun i =>
    decide (i ≠ index) &&
    match s.restrictions[i]? with
    | some o => o.valid && decide (o.base = e.base) && decide (o.k = e.k)
    | none => false

/-- The span is short enough for each conveyance concerned (R65 order 3). -/
def State.spanFits (s : State) (e : Restriction) : Bool :=
  (s.concerned e.mask).all fun v =>
    decide (4 * (2 : Int) ^ e.k ≤ 3 * ((s.active.convParams v).bottom - (s.active.convParams v).top))

/-- A barrier covers the home depth of a conveyance concerned (R65 order 4). -/
def State.coversHome (s : State) (e : Restriction) : Bool :=
  e.barrier && (s.concerned e.mask).any fun v => e.covers v (s.active.convParams v).home

/-- A change of an entry is tightening (R66). -/
def tightening (old new : Restriction) : Bool :=
  new.valid && (!old.valid ||
    (decide (new.base = old.base) && decide (new.k = old.k) && decide (new.cap ≤ old.cap)
      && new.mask.contains old.mask))

/-- Every in-use channel that owns a conveyance of either mask is at rest (R65 order 5). -/
def State.concernedAtRest (s : State) (old new : Restriction) : Bool :=
  (s.concerned old.mask ++ s.concerned new.mask).all fun v => s.atRest (convChannel v)

/-- The status of a write that changes the entry at an index (R65 orders 2 to 5). -/
def State.judgeRestrict (s : State) (index : Nat) (old new : Restriction) : Status :=
  if new.valid && s.duplicates index new then .refusedDuplicate
  else if new.valid && !s.spanFits new then .refusedRange
  else if s.coversHome new then .refusedConflict
  else if !tightening old new && !s.concernedAtRest old new then .refusedMoving
  else .ok

/-- The restriction recompute of a channel where it is due (R62). -/
def State.recompute (s : State) (c : Channel) (e : Restriction) : State :=
  if (s.concerned e.mask).any fun v => decide (convChannel v = c) then
    ((((s.recomputePermits c).judgeBarriers c).routeAll).judgeOverwind c).routeAll
  else s

/-- An accepted change is applied (R66): channel A's recompute, then channel B's (log 11). -/
def State.applyRestrict (s : State) (index : Nat) (old new : Restriction) : State :=
  let s1 := { s with restrictions := s.restrictions.set index new }
  (if tightening old new then (s1.recompute .a new).recompute .b new else s1).judgeCommit

/-- RESTRICT WRITE, by its rule (R65, log 16, log 24). -/
def runRestrictWrite (index : Nat) (r : RestrictFields) (q : Request) (s : State) : State :=
  match s.restrictions[index]? with
  | none => s.reply q .refusedRange []
  | some old =>
    if r.valid && !r.fits then s.reply q .refusedRange (restrictionBytes old)
    else if r.entry = old then s.reply q .ok (restrictionBytes old)
    else match s.judgeRestrict index old r.entry with
      | .ok => (s.applyRestrict index old r.entry).reply q .ok (restrictionBytes r.entry)
      | st => s.reply q st (restrictionBytes old)

/-- RESTRICT READ, by its rule (R180). -/
def runRestrictRead (index : Nat) (q : Request) (s : State) : State :=
  match s.restrictions[index]? with
  | some e => s.reply q .ok (restrictionBytes e)
  | none => s.reply q .refusedRange []

/-- RESTRICT READ (R180). -/
def execRestrictRead (t : Micros) (s : State) : Host.Outcome State Fault Refusal :=
  outOfReset t s (State.engine · fun
    | .restrictRead i => some (runRestrictRead i)
    | _ => none)

/-- RESTRICT WRITE (R65, R66). -/
def execRestrictWrite (t : Micros) (s : State) : Host.Outcome State Fault Refusal :=
  outOfReset t s (State.engine · fun
    | .restrictWrite i r => some (runRestrictWrite i r)
    | _ => none)

end Sys2Proof.Machine
end

