-- ==== Sys2Proof/Machine/Rows.lean ====
section
/-! DEFINITION. The Edit Unit (R154 to R157): ROW READ, ROW WRITE, ROW INSERT, ROW DELETE and ROW FIND. -/

namespace Sys2Proof.Machine

/-- The bank a request names (R154). -/
def State.bank (s : State) (shadow : Bool) : Bank := if shadow then s.shadow else s.active

/-- ROW READ, by its rule (R154). -/
def runRowRead (shadow : Bool) (profile index : Nat) (q : Request) (s : State) : State :=
  match convOfCode profile with
  | none => s.reply q .refusedRange []
  | some v =>
    let rows := (s.bank shadow).profile v
    match rows[index]? with
    | none => s.reply q .refusedRange []
    | some r => { s with editLatch := r }.reply q .ok (rowBytes r ++ fieldU8 rows.length)

/-- Membership of DEPTH in a field mask (R177). -/
def maskDepth (m : Nat) : Bool := inSet m 0

/-- Membership of DOWN or UP in a field mask (R177). -/
def maskDir (m : Nat) : Dir → Bool
  | .down => inSet m 1
  | .up => inSet m 2

/-- The source pair of a plane (R155 step 1). -/
def Edit.source (e : Edit) (plane : Nat) : Limits :=
  if e.same then e.pairs.getD 0 ⟨0, 0⟩ else e.pairs.getD plane ⟨0, 0⟩

/-- The range a source limit must lie in (R155). -/
def EditOp.limitRange : EditOp → Int × Int
  | .shift => (-20000, 20000)
  | .replace => (0, 20000)
  | .lower => (0, 20000)
  | .raise => (0, 20000)

/-- The range a source depth must lie in (R155). -/
def EditOp.depthRange : EditOp → Int × Int
  | .shift => (-4230000, 4230000)
  | .replace => (-30000, 4200000)
  | .lower => (-30000, 4200000)
  | .raise => (-30000, 4200000)

/-- A field combined from its source and the latch's value (R155 step 2), SHIFT saturated to a range. -/
def EditOp.combine (op : EditOp) (lo hi source latch : Int) : Int :=
  match op with
  | .replace => source
  | .lower => min source latch
  | .raise => max source latch
  | .shift => clampTo lo hi (latch + source)

/-- A source of an enabled plane is used and lies in its range, or is not used (R155). -/
def Edit.sourceFits (e : Edit) (plane : Nat) (d : Dir) : Bool :=
  !(inSet e.planes plane && maskDir e.mask d) || inRange e.op.limitRange ((e.source plane).get d)

/-- The parts of an edit lie within their values and its used sources within their ranges (R155, R156). -/
def Edit.fits (e : Edit) : Bool :=
  decide (e.planes < 16) && decide (e.mask < 8)
    && (!maskDepth e.mask || inRange e.op.depthRange e.depth)
    && (List.range 4).all fun p => e.sourceFits p .down && e.sourceFits p .up

/-- A limit of the new row (R155 step 3). -/
def Edit.limit (e : Edit) (vMax : Int) (latch base : Row) (plane : Nat) (d : Dir) : Speed :=
  if inSet e.planes plane then
    if maskDir e.mask d then
      e.op.combine 0 vMax ((e.source plane).get d) ((latch.limits plane).get d)
    else (latch.limits plane).get d
  else (base.limits plane).get d

/-- The new row (R155 step 3). -/
def Edit.row (e : Edit) (vMax : Int) (latch base : Row) : Row :=
  Row.build (if maskDepth e.mask then e.op.combine (-30000) 4200000 e.depth latch.depth else latch.depth)
    fun p => ⟨e.limit vMax latch base p .down, e.limit vMax latch base p .up⟩

/-- v_max of a profile's channel in the shadow (R155). -/
def State.shadowVMax (s : State) (v : Conveyance) : Int := (s.shadow.params (convChannel v)).vMax

/-- An accepted write of a shadow profile (R153, R156, R164): a pending commit is cancelled and the shadow
becomes DIRTY. -/
def State.writeProfile (s : State) (v : Conveyance) (rows : List Row) : State :=
  { s.cancelCommit 0 with shadow := s.shadow.setProfile v rows, shadowState := .dirty }

/-- ROW WRITE, by its rule (R155, R156). -/
def runRowWrite (e : Edit) (q : Request) (s : State) : State :=
  if s.shadowState = .checking then s.reply q .busy []
  else match convOfCode e.profile with
    | none => s.reply q .refusedRange []
    | some v =>
      let rows := s.shadow.profile v
      if !e.fits then s.reply q .refusedRange []
      else if rows.length < e.index then s.reply q .refusedRange []
      else if e.index = rows.length ∧ 96 ≤ rows.length then s.reply q .refusedFull []
      else
        let r := e.row (s.shadowVMax v) s.editLatch (rows.getD e.index Row.zero)
        let rows' := if e.index < rows.length then rows.set e.index r else rows ++ [r]
        (s.writeProfile v rows').reply q .ok (rowBytes r ++ fieldU8 rows'.length)

/-- ROW INSERT, by its rule (R155, R156). -/
def runRowInsert (e : Edit) (q : Request) (s : State) : State :=
  if s.shadowState = .checking then s.reply q .busy []
  else match convOfCode e.profile with
    | none => s.reply q .refusedRange []
    | some v =>
      let rows := s.shadow.profile v
      if !e.fits then s.reply q .refusedRange []
      else if rows.length < e.index then s.reply q .refusedRange []
      else if 96 ≤ rows.length then s.reply q .refusedFull []
      else
        let r := e.row (s.shadowVMax v) s.editLatch Row.zero
        let rows' := rows.take e.index ++ r :: rows.drop e.index
        (s.writeProfile v rows').reply q .ok (rowBytes r ++ fieldU8 rows'.length)

/-- ROW DELETE, by its rule (R156). -/
def runRowDelete (profile index : Nat) (q : Request) (s : State) : State :=
  if s.shadowState = .checking then s.reply q .busy []
  else match convOfCode profile with
    | none => s.reply q .refusedRange []
    | some v =>
      let rows := s.shadow.profile v
      if rows.length ≤ index then s.reply q .refusedRange []
      else
        let rows' := rows.eraseIdx index
        (s.writeProfile v rows').reply q .ok (fieldU8 rows'.length)

/-- Whether a plane of a row matches the compare row (R157). -/
def FindQuery.planeMatches (f : FindQuery) (r : Row) (p : Nat) : Bool :=
  (!maskDepth f.mask || decide (r.depth = f.compare.depth))
    && (!maskDir f.mask .down || decide ((r.limits p).down = (f.compare.limits p).down))
    && (!maskDir f.mask .up || decide ((r.limits p).up = (f.compare.limits p).up))

/-- Whether a row matches (R157). -/
def FindQuery.rowMatches (f : FindQuery) (r : Row) : Bool :=
  if (List.range 4).any (inSet f.planes) then
    (List.range 4).all fun p => !inSet f.planes p || f.planeMatches r p
  else !maskDepth f.mask || decide (r.depth = f.compare.depth)

/-- The plane map of a row (R157). -/
def FindQuery.planeMap (f : FindQuery) (r : Row) : Nat := setBits ((List.range 4).map (f.planeMatches r))

/-- The index found by a search from the start index on (R157). -/
def FindQuery.found (f : FindQuery) (rows : List Row) : Option Nat :=
  ((rows.drop f.start).findIdx? f.rowMatches).map (f.start + ·)

/-- The plane map of a search's reply (R157). -/
def FindQuery.mapFor (f : FindQuery) (rows : List Row) : Nat :=
  match rows[(f.found rows).getD f.start]? with
  | some r => f.planeMap r
  | none => 0

/-- ROW FIND, by its rule (R157, log 16). -/
def runRowFind (f : FindQuery) (q : Request) (s : State) : State :=
  match convOfCode f.profile with
  | none => s.reply q .refusedRange []
  | some v =>
    let rows := (s.bank f.shadow).profile v
    s.reply q .ok ((match f.found rows with
      | some i => fieldBool true ++ fieldU8 i
      | none => fieldBool false ++ fieldU8 0) ++ fieldU8 (f.mapFor rows))

/-- ROW READ (R154). -/
def execRowRead (t : Micros) (s : State) : Host.Outcome State Fault Refusal :=
  outOfReset t s (State.engine · fun
    | .rowRead b p i => some (runRowRead b p i)
    | _ => none)

/-- ROW WRITE (R155, R156). -/
def execRowWrite (t : Micros) (s : State) : Host.Outcome State Fault Refusal :=
  outOfReset t s (State.engine · fun
    | .rowWrite e => some (runRowWrite e)
    | _ => none)

/-- ROW INSERT (R155, R156). -/
def execRowInsert (t : Micros) (s : State) : Host.Outcome State Fault Refusal :=
  outOfReset t s (State.engine · fun
    | .rowInsert e => some (runRowInsert e)
    | _ => none)

/-- ROW DELETE (R156). -/
def execRowDelete (t : Micros) (s : State) : Host.Outcome State Fault Refusal :=
  outOfReset t s (State.engine · fun
    | .rowDelete p i => some (runRowDelete p i)
    | _ => none)

/-- ROW FIND (R157). -/
def execRowFind (t : Micros) (s : State) : Host.Outcome State Fault Refusal :=
  outOfReset t s (State.engine · fun
    | .rowFind f => some (runRowFind f)
    | _ => none)

end Sys2Proof.Machine
end

