-- ==== Sys2Proof/Machine/Timers.lean ====
section
/-! DEFINITION. What a timer's expiry does: the readback window (R141 to R143), the feedback gap (R20, R30),
the reference gap (R91 to R93), the substitute period (R95), and the two generators (R146, R147). -/

namespace Sys2Proof.Machine

/-- The STUCK condition of a line becomes true, or is true already (R143). -/
def State.findStuck (s : State) (c : Channel) (window : Micros) : State :=
  if (s.ch c).line.stuck then s
  else
    let s1 := s.updCh c fun x => { x with line := { x.line with stuck := true, stuckWindow := window } }
    (s1.openMaster.enqueue (s1.lineEvent c .triplineStuck window)).routeAndJudge s

/-- A readback window that has run out reports its disagreement (R141 to R143). -/
def State.windowExpires (s : State) (c : Channel) : State :=
  match (s.ch c).line.monitor, timedOut (s.ch c).line.window s.now with
  | .waiting, some w =>
    let s1 := s.updCh c fun x => { x with line := { x.line with monitor := .reported, window := none } }
    if (s.ch c).line.closed then s1.raiseAndJudge (s1.lineEvent c .extTrip w) else s1.findStuck c w
  | _, _ => s

/-- A conveyance's last judged depth becomes absent (R30). -/
def State.forgetDepth (s : State) (v : Conveyance) : State :=
  s.updConv v fun x => { x with lastJudged := none }

/-- A feedback gap timer that has run out (R20, R30). Where a frame of the channel has been taken first, its
evaluation restarts the timer and the expiry does not happen (R20, log 43). -/
def State.fbkGapExpires (s : State) (c : Channel) : State :=
  if (s.ch c).underway.isSome then s else
  match timedOut (s.ch c).ctr.gapTimer s.now with
  | none => s
  | some w =>
    let s1 := s.updCh c fun x => { x with ctr := { x.ctr with
      fbkLoss := true, feedbackValid := false, rebasePending := true, gapTimer := none } }
    let s2 := (convsOf c).foldl State.forgetDepth (s1.disarm c)
    (s2.enqueue (s2.primEvent c .fbkLoss (w : Int))).routeAndJudge s

/-- A channel in a moving state is put into STOPPING, substituting (R92, R95). -/
def State.startSubstitution (s : State) (c : Channel) : State :=
  let s1 := s.changeState c .stopping
  if (s1.ch c).rsv.substituting then s1
  else
    (s1.updCh c fun x => { x with rsv := { x.rsv with substituting := true } }).substitute c

/-- A loss is counted (R92, R93); LOSS_LIMIT waits where the count reaches 3. -/
def State.countLoss (s : State) (c : Channel) : State :=
  let n := (s.ch c).rsv.lossCount
  let s1 := s.updCh c fun x => { x with rsv := { x.rsv with lossCount := min 3 (n + 1) } }
  if n = 2 then s1.enqueue (s1.primEvent c .lossLimit 3) else s1

/-- The LINK_LOSS condition becomes true and its event waits (R91, R92). -/
def State.loseLink (s : State) (c : Channel) (window : Micros) : State :=
  let s1 := s.updCh c fun x => { x with rsv := { x.rsv with linkLoss := true, gapTimer := none } }
  s1.enqueue (s1.primEvent c .linkLoss (window : Int))

/-- A READY channel handed an expiry goes to HELD (R91). -/
def State.holdReady (s : State) (c : Channel) : State :=
  if (s.ch c).state = .ready then (s.changeState c .held).routeAll else s

/-- A reference gap timer that has run out (R91, R92; the order in a moving state: log 12). -/
def State.refGapExpires (s : State) (c : Channel) : State :=
  match timedOut (s.ch c).rsv.gapTimer s.now with
  | none => s
  | some w =>
    let s1 := s.loseLink c w
    if (s.ch c).state.moving then
      ((s1.countLoss c).startSubstitution c).routeAll.afterForward c
    else (s1.routeAll.holdReady c).judgeSince s

/-- A substitute period timer that has run out (R95). -/
def State.substituteExpires (s : State) (c : Channel) : State :=
  match timedOut (s.ch c).rsv.subTimer s.now with
  | none => s
  | some _ => if (s.ch c).rsv.substituting then (s.substitute c).afterForward c else s

/-- A half-period of the hold generator that has run out (R146). -/
def State.holdHalf (s : State) : State :=
  if s.holdOn ∧ s.holdSince + 1000 ≤ s.now then { s with holdHigh := !s.holdHigh, holdSince := s.now }
  else s

/-- A half-period of the flash generator that has run out (R147). -/
def State.flashHalf (s : State) : State :=
  if s.flashOn ∧ s.flashSince + 500000 ≤ s.now then { s with flashLit := !s.flashLit, flashSince := s.now }
  else s

/-- READBACK_WINDOW_EXPIRY (R141). -/
def execReadbackWindowExpiry (t : Micros) (c : Channel) (s : State) : Host.Outcome State Fault Refusal :=
  outOfReset t s (State.windowExpires · c)

/-- FBK_GAP_TIMER_EXPIRY (R20). -/
def execFbkGapTimerExpiry (t : Micros) (c : Channel) (s : State) : Host.Outcome State Fault Refusal :=
  outOfReset t s (State.fbkGapExpires · c)

/-- REF_GAP_TIMER_EXPIRY (R91, R92). -/
def execRefGapTimerExpiry (t : Micros) (c : Channel) (s : State) : Host.Outcome State Fault Refusal :=
  outOfReset t s (State.refGapExpires · c)

/-- SUBSTITUTE_PERIOD_EXPIRY (R95). -/
def execSubstitutePeriodExpiry (t : Micros) (c : Channel) (s : State) :
    Host.Outcome State Fault Refusal :=
  outOfReset t s (State.substituteExpires · c)

/-- HOLD_GENERATOR_HALF_PERIOD (R146). -/
def execHoldGeneratorHalfPeriod (t : Micros) (s : State) : Host.Outcome State Fault Refusal :=
  outOfReset t s State.holdHalf

/-- FLASH_GENERATOR_HALF_PERIOD (R147). -/
def execFlashGeneratorHalfPeriod (t : Micros) (s : State) : Host.Outcome State Fault Refusal :=
  outOfReset t s State.flashHalf

end Sys2Proof.Machine
end

