-- ==== Sys2Proof/Machine/Dispatch.lean ====
section
/-! DEFINITION. One arm for each command of the table: a direct call of its meaning. -/

namespace Sys2Proof.Machine

/-- The effect of a command on everything but the queue of waiting commands. -/
def exec (i : Instr) (s : State) : Host.Outcome State Fault Refusal :=
  match i with
  | .refFrameReceived t f => Sys2Proof.Machine.execRefFrameReceived t f s
  | .fbkFrameReceived t f => Sys2Proof.Machine.execFbkFrameReceived t f s
  | .feedbackEvaluation t c => Sys2Proof.Machine.execFeedbackEvaluation t c s
  | .mreqReceived t f => Sys2Proof.Machine.execMreqReceived t f s
  | .passThroughFrame t p f => Sys2Proof.Machine.execPassThroughFrame t p f s
  | .badFrame t p bytes => Sys2Proof.Machine.execBadFrame t p bytes s
  | .upstreamPortGrant t => Sys2Proof.Machine.execUpstreamPortGrant t s
  | .downstreamPortGrant t => Sys2Proof.Machine.execDownstreamPortGrant t s
  | .status t => Sys2Proof.Machine.execStatus t s
  | .conveyanceRead t => Sys2Proof.Machine.execConveyanceRead t s
  | .rowRead t => Sys2Proof.Machine.execRowRead t s
  | .rowWrite t => Sys2Proof.Machine.execRowWrite t s
  | .rowInsert t => Sys2Proof.Machine.execRowInsert t s
  | .rowDelete t => Sys2Proof.Machine.execRowDelete t s
  | .rowFind t => Sys2Proof.Machine.execRowFind t s
  | .entryRead t => Sys2Proof.Machine.execEntryRead t s
  | .entryWrite t => Sys2Proof.Machine.execEntryWrite t s
  | .restrictRead t => Sys2Proof.Machine.execRestrictRead t s
  | .restrictWrite t => Sys2Proof.Machine.execRestrictWrite t s
  | .bankCopy t => Sys2Proof.Machine.execBankCopy t s
  | .bankCheck t => Sys2Proof.Machine.execBankCheck t s
  | .checkCompletes t => Sys2Proof.Machine.execCheckCompletes t s
  | .bankCommit t => Sys2Proof.Machine.execBankCommit t s
  | .commitCancel t => Sys2Proof.Machine.execCommitCancel t s
  | .duty t => Sys2Proof.Machine.execDuty t s
  | .clear t => Sys2Proof.Machine.execClear t s
  | .backout t => Sys2Proof.Machine.execBackout t s
  | .eventInject t => Sys2Proof.Machine.execEventInject t s
  | .softReset t => Sys2Proof.Machine.execSoftReset t s
  | .badRequest t => Sys2Proof.Machine.execBadRequest t s
  | .measuringWheelTransition t phase1 phase2 => Sys2Proof.Machine.execMeasuringWheelTransition t phase1 phase2 s
  | .markInputChange t line level => Sys2Proof.Machine.execMarkInputChange t line level s
  | .markFilterAccept t line => Sys2Proof.Machine.execMarkFilterAccept t line s
  | .permitInputChange t c line level => Sys2Proof.Machine.execPermitInputChange t c line level s
  | .permitFilterAccept t c line => Sys2Proof.Machine.execPermitFilterAccept t c line s
  | .readbackInputChange t c level => Sys2Proof.Machine.execReadbackInputChange t c level s
  | .readbackFilterAccept t c => Sys2Proof.Machine.execReadbackFilterAccept t c s
  | .readbackWindowExpiry t c => Sys2Proof.Machine.execReadbackWindowExpiry t c s
  | .fbkGapTimerExpiry t c => Sys2Proof.Machine.execFbkGapTimerExpiry t c s
  | .refGapTimerExpiry t c => Sys2Proof.Machine.execRefGapTimerExpiry t c s
  | .substitutePeriodExpiry t c => Sys2Proof.Machine.execSubstitutePeriodExpiry t c s
  | .holdGeneratorHalfPeriod t => Sys2Proof.Machine.execHoldGeneratorHalfPeriod t s
  | .flashGeneratorHalfPeriod t => Sys2Proof.Machine.execFlashGeneratorHalfPeriod t s
  | .powerOn t => Sys2Proof.Machine.execPowerOn t s
  | .supplyEstablished t straps => Sys2Proof.Machine.execSupplyEstablished t straps s
  | .resetInputAsserted t => Sys2Proof.Machine.execResetInputAsserted t s
  | .resetInputDeasserted t straps => Sys2Proof.Machine.execResetInputDeasserted t straps s
  | .softResetPeriodEnd t straps => Sys2Proof.Machine.execSoftResetPeriodEnd t straps s

end Sys2Proof.Machine
end

