-- ==== Sys2Proof/Safety.lean ====
section
/-! DEFINITION. What counts as a sound state of the part, in the terms the claims use: each predicate is a
promise the manual makes of every moment, stated of both channels. -/

namespace Sys2Proof

/-- The moment a command carries (log 1). -/
def Instr.moment : Instr → Micros
  | .refFrameReceived t _ => t
  | .fbkFrameReceived t _ => t
  | .feedbackEvaluation t _ => t
  | .mreqReceived t _ => t
  | .passThroughFrame t _ _ => t
  | .badFrame t _ _ => t
  | .upstreamPortGrant t => t
  | .downstreamPortGrant t => t
  | .status t => t
  | .conveyanceRead t => t
  | .rowRead t => t
  | .rowWrite t => t
  | .rowInsert t => t
  | .rowDelete t => t
  | .rowFind t => t
  | .entryRead t => t
  | .entryWrite t => t
  | .restrictRead t => t
  | .restrictWrite t => t
  | .bankCopy t => t
  | .bankCheck t => t
  | .checkCompletes t => t
  | .bankCommit t => t
  | .commitCancel t => t
  | .duty t => t
  | .clear t => t
  | .backout t => t
  | .eventInject t => t
  | .softReset t => t
  | .badRequest t => t
  | .measuringWheelTransition t _ _ => t
  | .markInputChange t _ _ => t
  | .markFilterAccept t _ => t
  | .permitInputChange t _ _ _ => t
  | .permitFilterAccept t _ _ => t
  | .readbackInputChange t _ _ => t
  | .readbackFilterAccept t _ => t
  | .readbackWindowExpiry t _ => t
  | .fbkGapTimerExpiry t _ => t
  | .refGapTimerExpiry t _ => t
  | .substitutePeriodExpiry t _ => t
  | .holdGeneratorHalfPeriod t => t
  | .flashGeneratorHalfPeriod t => t
  | .powerOn t => t
  | .supplyEstablished t _ => t
  | .resetInputAsserted t => t
  | .resetInputDeasserted t _ => t
  | .softResetPeriodEnd t _ => t

/-- The commands that act while the part is in reset: its pins and the resets themselves (R182, log 30). -/
def Instr.actsInReset : Instr → Bool
  | .measuringWheelTransition _ _ _ => true
  | .markInputChange _ _ _ => true
  | .permitInputChange _ _ _ _ => true
  | .readbackInputChange _ _ _ => true
  | .powerOn _ => true
  | .supplyEstablished _ _ => true
  | .resetInputAsserted _ => true
  | .resetInputDeasserted _ _ => true
  | .softResetPeriodEnd _ _ => true
  | .refFrameReceived _ _ => false
  | .fbkFrameReceived _ _ => false
  | .feedbackEvaluation _ _ => false
  | .mreqReceived _ _ => false
  | .passThroughFrame _ _ _ => false
  | .badFrame _ _ _ => false
  | .upstreamPortGrant _ => false
  | .downstreamPortGrant _ => false
  | .status _ => false
  | .conveyanceRead _ => false
  | .rowRead _ => false
  | .rowWrite _ => false
  | .rowInsert _ => false
  | .rowDelete _ => false
  | .rowFind _ => false
  | .entryRead _ => false
  | .entryWrite _ => false
  | .restrictRead _ => false
  | .restrictWrite _ => false
  | .bankCopy _ => false
  | .bankCheck _ => false
  | .checkCompletes _ => false
  | .bankCommit _ => false
  | .commitCancel _ => false
  | .duty _ => false
  | .clear _ => false
  | .backout _ => false
  | .eventInject _ => false
  | .softReset _ => false
  | .badRequest _ => false
  | .markFilterAccept _ _ => false
  | .permitFilterAccept _ _ _ => false
  | .readbackFilterAccept _ _ => false
  | .readbackWindowExpiry _ _ => false
  | .fbkGapTimerExpiry _ _ => false
  | .refGapTimerExpiry _ _ => false
  | .substitutePeriodExpiry _ _ => false
  | .holdGeneratorHalfPeriod _ => false
  | .flashGeneratorHalfPeriod _ => false

end Sys2Proof

namespace Sys2Proof.Machine

/-- Every buffer, queue and count lies within its capacity (R98, R99, R133, R134, R169, R170, R171, R175). -/
structure WithinCapacity (s : State) : Prop where
  notices  : s.notices.length ≤ 16
  requests : s.requests.length ≤ 4
  replies  : s.replies.length ≤ 4
  fbkOut   : s.fbkOut.length ≤ 4
  passUp   : s.passUp.length ≤ 4
  passDown : s.passDown.length ≤ 4
  refQueue : s.refQueue.length ≤ 4
  seq      : s.seq < 256
  errUp    : s.errUp ≤ 65535
  errDown  : s.errDown ≤ 65535
  ovUp     : s.ovUp ≤ 65535
  ovDown   : s.ovDown ≤ 65535

/-- A channel's trip line is commanded as R138's table gives for its state. -/
def LineFollows (x : Chan) : Prop := x.line.closed = x.state.closesLine

/-- Both trip lines are commanded by R138, and in reset both are OPEN. -/
structure LinesFollow (s : State) : Prop where
  lineA : LineFollows s.chA
  lineB : LineFollows s.chB
  reset : s.inReset = true → s.chA.state = .idle ∧ s.chB.state = .idle

/-- Both loss counts stay within 0 to 3 (R93). -/
structure LossBounded (s : State) : Prop where
  lossA : s.chA.rsv.lossCount ≤ 3
  lossB : s.chB.rsv.lossCount ≤ 3

/-- A commit is pending only while the shadow is VALID (R164), and a CHECK is under way exactly while the
shadow is CHECKING (R153). -/
structure BankAutomaton (s : State) : Prop where
  pending : s.pendingCommit = true → s.shadowState = .valid
  job     : s.checkJob.isSome = true ↔ s.shadowState = .checking

/-- What a channel's reference context and backout record owe to its state: in a standing state the
forwarded reference is 0 (R101), only STOPPING substitutes (R95, R97), and the backout record exists exactly
in BACKOUT (R57). -/
structure ReferenceSound (x : Chan) : Prop where
  standing     : x.state.moving = false → x.rsv.forwarded = 0
  substituting : x.rsv.substituting = true → x.state = .stopping
  backout      : x.env.backout.isSome = true ↔ x.state = .backout

/-- Both channels' reference contexts are sound. -/
structure ReferencesSound (s : State) : Prop where
  refA : ReferenceSound s.chA
  refB : ReferenceSound s.chB

/-- A channel is IDLE exactly when it is not in use in the active bank (R101, R119). -/
structure IdleUnused (s : State) : Prop where
  idleA : s.chA.state = .idle ↔ s.active.inUse .a = false
  idleB : s.chB.state = .idle ↔ s.active.inUse .b = false

/-- Two valid restriction entries never share base and k (R63). -/
def RestrictionsDistinct (s : State) : Prop :=
  s.restrictions.length = 8 ∧
  ∀ i j : Nat, ∀ e o : Restriction, s.restrictions[i]? = some e → s.restrictions[j]? = some o →
    e.valid = true → o.valid = true → e.base = o.base → e.k = o.k → i = j

/-- A LOADED active bank, and a VALID shadow, pass the CHECK (R152, R153, R159); in reset there is
neither. -/
structure BanksChecked (s : State) : Prop where
  active : s.activeLoaded = true → checkBank s.linkAddr s.active = none
  shadow : s.shadowState = .valid → checkBank s.linkAddr s.shadow = none
  reset  : s.inReset = true → s.activeLoaded = false ∧ s.shadowState ≠ .valid

/-- Each beacon shows what R147 gives for its channel. -/
structure BeaconsJudged (s : State) : Prop where
  beaconA : s.chA.beacon = s.beaconFor .a
  beaconB : s.chB.beacon = s.beaconFor .b

/-- The routes of a table keep their sources' floors, and that of TRIPLINE_STUCK its scope BOTH (R123). -/
structure RoutesSound (rs : List Route) : Prop where
  floors : ∀ i r, rs[i]? = some r → (floorClass i).rank ≤ r.cls.rank
  stuck  : ∀ r, rs[9]? = some r → r.scope = .both

/-- The tables of a bank have their numbers of entries (R150), at most 96 rows to a profile (R43), and sound
routes (R123). -/
structure BankShape (b : Bank) : Prop where
  cage    : b.cage.length ≤ 96
  cwt     : b.cwt.length ≤ 96
  skip    : b.skip.length ≤ 96
  marks   : b.marks.length = 32
  routesA : b.routesA.length = 24
  routesB : b.routesB.length = 24
  soundA  : RoutesSound b.routesA
  soundB  : RoutesSound b.routesB
  groupsA : b.derateA.groups.length = 4
  groupsB : b.derateB.groups.length = 4

/-- A channel holds 24 flags, 8 permit filters and 4 derate group states (R124, R116, R69). -/
structure ChanShape (x : Chan) : Prop where
  flags   : x.flags.length = 24
  permits : x.permits.length = 8
  groups  : x.env.groups.length = 4

/-- Every table and group of state has its number of members (R24, R27, R63, R150). -/
structure Shaped (s : State) : Prop where
  chA          : ChanShape s.chA
  chB          : ChanShape s.chB
  active       : BankShape s.active
  shadow       : BankShape s.shadow
  markFilters  : s.markFilters.length = 16
  arms         : s.arms.length = 32
  restrictions : s.restrictions.length = 8

/-- The states in which a channel may have a blocking flag of class STOP (R105 to R107, R112). -/
def ChanState.mayBlock : ChanState → Bool
  | .ready => false
  | .run => false
  | .backout => false
  | .idle => true
  | .stopping => true
  | .held => true
  | .tripped => true

/-- A channel that is not IDLE has a TRIP-class blocking flag only in TRIPPED, and no blocking flag at all in
READY, RUN and BACKOUT (R106, R108, R112). -/
structure FlagsObeyed (s : State) : Prop where
  tripA  : s.chA.state ≠ .idle → s.hasTripBlocking .a = true → s.chA.state = .tripped
  tripB  : s.chB.state ≠ .idle → s.hasTripBlocking .b = true → s.chB.state = .tripped
  blockA : s.chA.state.mayBlock = false → s.hasBlocking .a = false
  blockB : s.chB.state.mayBlock = false → s.hasBlocking .b = false

/-- While the part is out of reset the master line is CLOSED only while no contact is known to be stuck, and
the hold output pulses exactly while the master line is CLOSED; it is low where it does not pulse (R143,
R145, R146). -/
structure MasterSound (s : State) : Prop where
  stuckA : s.chA.line.stuck = true → s.masterClosed = false
  stuckB : s.chB.line.stuck = true → s.masterClosed = false
  pulses : s.inReset = false → s.holdOn = s.masterClosed
  low    : s.holdOn = false → s.holdHigh = false
  reset  : s.inReset = true → s.masterClosed = true ∧ s.holdOn = false

/-- Outside the moving states the low alarm and PERMIT_LOST conditions are false (R71, R117). -/
structure StandingQuiet (x : Chan) : Prop where
  quiet : x.state.moving = false → x.env.low0 = false ∧ x.env.low1 = false ∧ x.permitLost = false

/-- The frame of a routed event, for one channel: its records, its tracking context, its pins, and the parts
of its other contexts that only their own commands write. What it may write is the state, the flags, the
forwarded reference with its timers, permits and ceilings with the overwind, alarm and PERMIT_LOST
conditions, the backout record, and the trip line's command and monitor (R102, R125). -/
structure ChanKept (x y : Chan) : Prop where
  plane          : y.plane = x.plane
  permits        : y.permits = x.permits
  underway       : y.underway = x.underway
  place          : y.place = x.place
  cwt            : y.cwt = x.cwt
  prim           : y.prim = x.prim
  ctr            : y.ctr = x.ctr
  groups         : y.env.groups = x.env.groups
  factor         : y.env.factor = x.env.factor
  lastAccepted   : y.rsv.lastAccepted = x.rsv.lastAccepted
  lastToggle     : y.rsv.lastToggle = x.rsv.lastToggle
  lastControl    : y.rsv.lastControl = x.rsv.lastControl
  lastController : y.rsv.lastController = x.rsv.lastController
  lastTxToggle   : y.rsv.lastTxToggle = x.rsv.lastTxToggle
  linkLoss       : y.rsv.linkLoss = x.rsv.linkLoss
  lossCount      : y.rsv.lossCount = x.rsv.lossCount
  readback       : y.line.readback = x.line.readback
  stuck          : y.line.stuck = x.line.stuck
  stuckWindow    : y.line.stuckWindow = x.line.stuckWindow

/-- The frame of a routed event: all of the state but the notice queue with its counter and status, the
reference queue with the downstream overflow count, the arm states, the beacons, and what `ChanKept` lets go
(R102, R125). -/
structure Kept (s t : State) : Prop where
  now : t.now = s.now
  powerReset : t.powerReset = s.powerReset
  inputReset : t.inputReset = s.inputReset
  softReset : t.softReset = s.softReset
  linkAddr : t.linkAddr = s.linkAddr
  phase1 : t.phase1 = s.phase1
  phase2 : t.phase2 = s.phase2
  markFilters : t.markFilters = s.markFilters
  restrictions : t.restrictions = s.restrictions
  activeLoaded : t.activeLoaded = s.activeLoaded
  active : t.active = s.active
  shadowState : t.shadowState = s.shadowState
  shadow : t.shadow = s.shadow
  editLatch : t.editLatch = s.editLatch
  pendingCommit : t.pendingCommit = s.pendingCommit
  checkJob : t.checkJob = s.checkJob
  masterClosed : t.masterClosed = s.masterClosed
  holdOn : t.holdOn = s.holdOn
  holdHigh : t.holdHigh = s.holdHigh
  holdSince : t.holdSince = s.holdSince
  flashOn : t.flashOn = s.flashOn
  flashLit : t.flashLit = s.flashLit
  flashSince : t.flashSince = s.flashSince
  requests : t.requests = s.requests
  replies : t.replies = s.replies
  checkReply : t.checkReply = s.checkReply
  fbkOut : t.fbkOut = s.fbkOut
  passUp : t.passUp = s.passUp
  passDown : t.passDown = s.passDown
  upTx : t.upTx = s.upTx
  downTx : t.downTx = s.downTx
  errUp : t.errUp = s.errUp
  errDown : t.errDown = s.errDown
  ovUp : t.ovUp = s.ovUp
  pending : t.pending = s.pending
  chA : ChanKept s.chA t.chA
  chB : ChanKept s.chB t.chB

/-- The part is out of reset, and the beacons show what R147 gives: the state every command leaves. -/
structure Running (s : State) : Prop where
  outOfReset : s.inReset = false
  beacons    : BeaconsJudged s

/-- The part is running, no event waits to be routed (log 10), and no commit is pending (R164). -/
structure Settled (s : State) : Prop where
  running  : Running s
  raised   : s.raised = []
  noCommit : s.pendingCommit = false

/-- A management request is about to be executed: the part is running, a reply place is free, and the head
of the queue decodes to it (R175). -/
structure RequestReady (s : State) (q : Request) (rest : List Request) (r : Req) : Prop where
  running : Running s
  place   : s.replies.length < 4
  head    : s.requests = q :: rest
  decodes : decodeReq q.code q.params = some r

/-- The reply to a request as it waits in the reply buffer (R176). -/
def replyTo (s : State) (q : Request) (st : Status) (data : List Byte) : UpFrame :=
  ⟨replyFrame s.linkAddr q.src q.code q.tag st data, false⟩

/-- The state after a request that only answers: the head has left the queue, and its reply waits (R175,
R176). -/
def State.answered (s : State) (t : Micros) (q : Request) (rest : List Request) (st : Status)
    (data : List Byte) : State :=
  { s.advance t with requests := rest, replies := s.replies ++ [replyTo s q st data] }

/-- An address is the drive_addr of an in-use channel (R170). -/
def Serves (s : State) (c : Channel) (a : Byte) : Prop :=
  s.active.inUse c = true ∧ (s.params c).driveAddr = (a.toNat : Int)

/-- A REF or FBK address is a channel's, and not the other's before it (R161 step 3 keeps two in-use
channels apart). -/
structure ServesOnly (s : State) (c : Channel) (a : Byte) : Prop where
  own   : Serves s c a
  other : ¬ Serves s (otherChannel c) a

/-- What a reset leaves of a channel (R1, R2, R61, R79, R101, R116, R120, R137, R148). -/
structure ChannelReset (x : Chan) : Prop where
  state      : x.state = .idle
  plane      : x.plane = 0
  permits    : ∀ f ∈ x.permits, f.candidate = none ∧ f.filtered = f.raw
  permitLost : x.permitLost = false
  flags      : x.flags = List.replicate 24 .clear
  beacon     : x.beacon = .off
  underway   : x.underway = none
  place      : x.place = none
  prim       : x.prim = Conv.reset
  cwt        : x.cwt = Conv.reset
  ctr        : x.ctr = Tracking.reset
  env        : x.env = Envelope.reset
  rsv        : x.rsv = RefContext.reset
  open_      : x.line.closed = false
  readback   : x.line.readback.candidate = none ∧ x.line.readback.filtered = x.line.readback.raw
  monitor    : x.line.monitor = .agree ∧ x.line.window = none
  stuck      : x.line.stuck = false

/-- What a reset leaves of every block (R24, R63, R99, R133 to R137, R148, R152 to R154, R167, R169, R170, R171,
R175, R182). It holds from the beginning of the reset: the model's reading (log 30). -/
structure ResetContents (u : State) : Prop where
  markFilters   : ∀ f ∈ u.markFilters, f.candidate = none ∧ f.filtered = f.raw
  chA           : ChannelReset u.chA
  chB           : ChannelReset u.chB
  arms          : u.arms = List.replicate 32 .idle
  restrictions  : u.restrictions = List.replicate 8 Restriction.invalid
  notices       : u.notices = []
  seq           : u.seq = 0
  noticesLost   : u.noticesLost = false
  activeLoaded  : u.activeLoaded = false
  active        : u.active = Bank.initial
  shadowState   : u.shadowState = .empty
  shadow        : u.shadow = Bank.initial
  editLatch     : u.editLatch = Row.zero
  pendingCommit : u.pendingCommit = false
  checkJob      : u.checkJob = none
  masterClosed  : u.masterClosed = true
  requests      : u.requests = []
  replies       : u.replies = []
  checkReply    : u.checkReply = none
  fbkOut        : u.fbkOut = []
  passUp        : u.passUp = []
  passDown      : u.passDown = []
  refQueue      : u.refQueue = []
  upTx          : u.upTx = none
  downTx        : u.downTx = none
  errUp         : u.errUp = 0
  errDown       : u.errDown = 0
  ovUp          : u.ovUp = 0
  ovDown        : u.ovDown = 0

/-- What stands on the part's pins, and what the beginning of a reset leaves: the raw levels, the link address, and
the commands that wait. -/
structure PinsKept (s u : State) : Prop where
  marks    : u.markFilters.map InputFilter.raw = s.markFilters.map InputFilter.raw
  permits  : ∀ c, (u.ch c).permits.map InputFilter.raw = (s.ch c).permits.map InputFilter.raw
  readback : ∀ c, (u.ch c).line.readback.raw = (s.ch c).line.readback.raw
  phases   : u.phase1 = s.phase1 ∧ u.phase2 = s.phase2
  linkAddr : u.linkAddr = s.linkAddr
  pending  : u.pending = s.pending

/-- The outputs while the part is in reset: the hold output low, the generators stopped (R146 to R148). -/
structure OutputsHeld (u : State) : Prop where
  hold  : u.holdOn = false ∧ u.holdHigh = false
  flash : u.flashOn = false ∧ u.flashLit = false

/-- A filter that has been sampled holds its raw level and no candidate (R24, R116, R140). -/
def SampledFrom (old new : List InputFilter) : Prop :=
  new = old.map fun f => { raw := f.raw, filtered := f.raw, candidate := none }

/-- A channel as a reset ends: its permit lines and its readback sampled, and the line, commanded OPEN,
waiting out 200 ms where the readback is closed (R116, R141, R148). -/
structure ChannelResumed (x y : Chan) (now : Micros) : Prop where
  permits  : SampledFrom x.permits y.permits
  readback : y.line.readback =
    { raw := x.line.readback.raw, filtered := x.line.readback.raw, candidate := none }
  closed   : x.line.readback.raw = true → y.line.monitor = .waiting ∧ y.line.window = some ⟨now, 200000⟩
  opened   : x.line.readback.raw = false → y.line.monitor = .agree ∧ y.line.window = none
  frame    : y = { x with
    permits := y.permits
    line := { x.line with
      readback := y.line.readback
      monitor := y.line.monitor
      window := y.line.window } }

/-- The end of the last of the resets that held the part (R182, R148, R172). -/
structure ResetEnded (s u : State) (straps : BitVec 4) : Prop where
  outOfReset : u.inReset = false
  linkAddr   : u.linkAddr.toNat = 0x40 + straps.toNat
  marks      : SampledFrom s.markFilters u.markFilters
  chA        : ChannelResumed s.chA u.chA s.now
  chB        : ChannelResumed s.chB u.chB s.now
  hold       : u.holdOn = true ∧ u.holdHigh = true ∧ u.holdSince = s.now
  flash      : u.flashOn = true ∧ u.flashLit = true ∧ u.flashSince = s.now
  frame      : u = { s with
    powerReset := u.powerReset
    inputReset := u.inputReset
    softReset := u.softReset
    linkAddr := u.linkAddr
    markFilters := u.markFilters
    chA := u.chA
    chB := u.chB
    holdOn := u.holdOn
    holdHigh := u.holdHigh
    holdSince := u.holdSince
    flashOn := u.flashOn
    flashLit := u.flashLit
    flashSince := u.flashSince }

/-- A source combined with the latch's value by an edit's operation (R155 step 2). -/
def Combined (op : EditOp) (lo hi source latch x : Int) : Prop :=
  match op with
  | .replace => x = source
  | .lower => x = min source latch
  | .raise => x = max source latch
  | .shift => x = max lo (min hi (latch + source))

/-- A field mask names a direction's limit (R155, R177). -/
def Edit.masks (e : Edit) : Dir → Bool
  | .down => e.mask.testBit 1
  | .up => e.mask.testBit 2

/-- The source pair of a plane (R155 step 1): the one pair of SAME, or the plane's own under EACH. -/
def Edit.sourceOf (e : Edit) (plane : Nat) : Limits := e.pairs.getD (if e.same then 0 else plane) ⟨0, 0⟩

/-- The new row of an edit (R155 step 3): masked fields of enabled planes are combined, unmasked ones come
from the latch, and disabled planes keep the row that stood there. -/
structure NewRow (e : Edit) (vMax : Int) (latch base r : Row) : Prop where
  depthIn  : e.mask.testBit 0 = true → Combined e.op (-30000) 4200000 e.depth latch.depth r.depth
  depthOut : e.mask.testBit 0 = false → r.depth = latch.depth
  masked   : ∀ p, p < 4 → ∀ d, e.planes.testBit p = true → e.masks d = true →
    Combined e.op 0 vMax ((e.sourceOf p).get d) ((latch.limits p).get d) ((r.limits p).get d)
  unmasked : ∀ p, p < 4 → ∀ d, e.planes.testBit p = true → e.masks d = false →
    (r.limits p).get d = (latch.limits p).get d
  disabled : ∀ p, p < 4 → e.planes.testBit p = false → r.limits p = base.limits p

/-- An edit's parts have meanings and its used sources lie in their ranges (R155, R156). -/
structure EditInRange (e : Edit) : Prop where
  planes : e.planes < 16
  mask   : e.mask < 8
  depth  : e.mask.testBit 0 = true →
    if e.op = .shift then -4230000 ≤ e.depth ∧ e.depth ≤ 4230000 else -30000 ≤ e.depth ∧ e.depth ≤ 4200000
  limits : ∀ p, p < 4 → ∀ d, e.planes.testBit p = true → e.masks d = true →
    (if e.op = .shift then -20000 else 0) ≤ (e.sourceOf p).get d ∧ (e.sourceOf p).get d ≤ 20000

/-- What a request that cancels a pending commit does to it, and to the notice queue where one was pending
(R164, R133, R134): the notice is a NOTE, and a full queue drops it. -/
structure CancelsCommit (s u : State) (cause : Int) : Prop where
  commit  : u.pendingCommit = false
  quiet   : s.pendingCommit = false →
    u.seq = s.seq ∧ u.notices = s.notices ∧ u.noticesLost = s.noticesLost
  counted : s.pendingCommit = true → u.seq = (s.seq + 1) % 256
  noticed : s.pendingCommit = true → s.notices.length < 16 →
    u.notices = s.notices ++ [⟨s.seq, partNotice .commitCancelled (some cause) none⟩] ∧
      u.noticesLost = s.noticesLost
  dropped : s.pendingCommit = true → 16 ≤ s.notices.length →
    u.notices = s.notices ∧ u.noticesLost = true

/-- A request that writes the shadow bank leaves it DIRTY, cancels a pending commit, is answered, and changes
nothing else (R153, R156, R158, R164). -/
structure WritesShadow (s : State) (t : Micros) (q : Request) (rest : List Request) (st : Status)
    (data : List Byte) (u : State) : Prop where
  dirty   : u.shadowState = .dirty
  cancels : CancelsCommit s u 0
  frame   : u = { s.answered t q rest st data with
    shadow := u.shadow
    shadowState := u.shadowState
    pendingCommit := u.pendingCommit
    seq := u.seq
    notices := u.notices
    noticesLost := u.noticesLost }

/-- The record and envelope of a conveyance whose channel a commit leaves in use (R22, R42, R59, R61, R68). -/
def Conv.afresh (x : Conv) : Conv :=
  { x with
    corrTotal := 0
    correction := none
    lastMark := none
    lastJudged := none
    profDown := 0
    profUp := 0
    permitDown := 0
    permitUp := 0
    inBarrier := false }

/-- A channel that a commit leaves in use (R20, R22, R42, R59, R61, R68, R69, R71, R79, R90, R117, R118, R165), with
the parameters of the new bank: its records, its contexts and its envelope, whole. -/
structure ChannelCommitted (x y : Chan) (p : Params) (now : Micros) : Prop where
  state      : y.state = .held ∨ y.state = .tripped
  tripped    : x.state = .tripped → y.state = .tripped
  plane      : y.plane = x.plane
  records    : y.prim = x.prim.afresh ∧ y.cwt = x.cwt.afresh
  tracking   : y.ctr = { x.ctr with
    rebasePending := true
    feedbackValid := false
    confirmed := false
    gapTimer := if x.ctr.fbkLoss = true ∧ x.state ≠ .idle then none
      else some ⟨now, (p.f * p.tNom).toNat⟩ }
  permits    : y.env.pDown = 0 ∧ y.env.pUp = 0
  ceilings   : y.env.ceilDown = p.mAbs ∧ y.env.ceilUp = p.mAbs
  derate     : y.env.factor = 8 ∧ y.env.groups = List.replicate 4 false
  conditions : y.env.overDeep = false ∧ y.env.overHigh = false ∧ y.env.low0 = false ∧ y.env.low1 = false ∧
    y.env.backout = none
  reference  : y.rsv = { x.rsv with
    forwarded := y.rsv.forwarded
    lastAccepted := none
    lastToggle := none
    substituting := false
    subTimer := none
    gapTimer := if y.state = x.state ∨ x.rsv.linkLoss = true then x.rsv.gapTimer
      else some ⟨now, (p.tLong * 1000).toNat⟩ }
  standing   : y.rsv.forwarded = x.rsv.forwarded ∨ y.rsv.forwarded = 0
  permitLost : y.permitLost = x.permitLost

/-- A channel that a commit leaves out of use (R22, R42, R61, R79, R117 to R119, R131, R165). -/
structure ChannelUnused (x y : Chan) : Prop where
  state      : y.state = .idle
  flags      : y.flags = List.replicate 24 .clear
  prim       : y.prim = Conv.reset
  cwt        : y.cwt = Conv.reset
  ctr        : y.ctr = Tracking.reset
  env        : y.env = Envelope.reset
  rsv        : y.rsv = RefContext.reset
  plane      : y.plane = x.plane
  permitLost : y.permitLost = false
  stuck      : y.line.stuck = (x.line.stuck && decide (x.state = .idle))

/-- A trip line over a commit (R138, R141, R149), `window` being its window in the new bank: a state that changes
commands it; a command that stays has a running window start afresh; a new one moves the monitor. -/
structure LineCommitted (x y : Chan) (now window : Micros) : Prop where
  readback : y.line.readback = x.line.readback
  closed   : y.line.closed = if y.state = x.state then x.line.closed else y.state.closesLine
  same     : y.line.closed = x.line.closed → y.line.monitor = x.line.monitor ∧
    y.line.window = x.line.window.map fun _ => ⟨now, window⟩
  agrees   : y.line.closed ≠ x.line.closed → y.line.closed = x.line.readback.filtered →
    y.line.monitor = .agree ∧ y.line.window = none
  differs  : y.line.closed ≠ x.line.closed → y.line.closed ≠ x.line.readback.filtered →
    y.line.monitor = .waiting ∧ y.line.window = some ⟨now, window⟩

/-- The four transitions of the sequence 00, 10, 11, 01 and back to 00 (R5), each from the old pair of phase
levels to the new one. -/
def forwardTurns : List ((Bool × Bool) × (Bool × Bool)) :=
  [((false, false), (true, false)), ((true, false), (true, true)),
   ((true, true), (false, true)), ((false, true), (false, false))]

/-- A filter after its raw level comes to a level (R24): a level it already has changes nothing; a return to
the filtered level drops the candidate; a change away from it is a candidate of this moment. -/
def filterMoved (f : InputFilter) (level : Bool) (now : Micros) : InputFilter :=
  if level = f.raw then f
  else { raw := level, filtered := f.filtered,
         candidate := if level = f.filtered then none else some (f.candidate.getD now) }

/-- A filter whose candidate has aged 200 µs at a moment accepts the change (R24). -/
structure FilterDue (f : InputFilter) (edge now : Micros) : Prop where
  candidate : f.candidate = some edge
  aged      : edge + 200 ≤ now

/-- A filter with nothing to accept at a moment: no candidate, or one younger than 200 µs (R24). -/
def FilterWaits (f : InputFilter) (now : Micros) : Prop :=
  ∀ edge, f.candidate = some edge → now < edge + 200

/-- A filter after it accepts its change (R24). -/
def filterAccepted (f : InputFilter) : InputFilter :=
  { raw := f.raw, filtered := f.raw, candidate := none }

/-- The entry a mark edge selects (R33): of the eligible entries, the one nearest to its depth, ties to the
lowest index. -/
structure Selected (k : Candidate) (ks : List Candidate) : Prop where
  mem     : k ∈ ks
  nearest : ∀ m ∈ ks, k.distance < m.distance ∨ (k.distance = m.distance ∧ k.index ≤ m.index)

/-- A timer that has run out at a moment (R20, R90, R95, R141). -/
structure RunOut (timer : Option Countdown) (timeout now : Micros) : Prop where
  ran : ∃ since, timer = some ⟨since, timeout⟩ ∧ since + timeout ≤ now

/-- A timer that is stopped, or has not run out at a moment. -/
def NotRunOut (timer : Option Countdown) (now : Micros) : Prop :=
  ∀ k, timer = some k → now < k.since + k.timeout

/-- A REF frame of a channel's drive has been taken in, in a settled state (R80). -/
structure RefArrives (s : State) (c : Channel) (f : LinkFrame) : Prop where
  settled : Settled s
  kind    : f.kind = LinkFrame.kindRef
  length  : f.payload.length = 4
  serves  : ServesOnly s c f.dest

/-- A frame that passes the spacing check at a moment (R81), T_nom / 4 being taken exactly: the model's choice
(log 41). -/
def Spaced (s : State) (c : Channel) (now : Micros) : Prop :=
  ∀ last, (s.ch c).rsv.lastAccepted = some last → (s.params c).tNom ≤ 4 * ((now - last : Nat) : Int)

/-- A frame that is accepted (R81 to R83): it is spaced and its toggle has turned. -/
structure RefAccepted (s : State) (c : Channel) (f : LinkFrame) (now : Micros) : Prop where
  arrives : RefArrives s c f
  spaced  : Spaced s c now
  fresh   : (s.ch c).rsv.lastToggle ≠ some (refToggle f)

/-- The saturated request of a frame (R83 step 4). -/
def State.request (s : State) (c : Channel) (f : LinkFrame) : Speed :=
  max (-(s.params c).vMax) (min (s.params c).vMax (refSpeed f))

/-- The permit of a nonzero speed's direction, as it stands (chapter 5.3). -/
def State.permitToward (s : State) (c : Channel) (v : Speed) : Speed :=
  if 0 < v then (s.ch c).env.pDown else (s.ch c).env.pUp

/-- A controller frame as it waits for the downstream port (R89): DEST, SRC, control byte and toggle kept, the
substitute flag cleared, the speed decided. -/
def forwardedItem (c : Channel) (f : LinkFrame) (v : Speed) : RefItem :=
  { chan := c, dest := f.dest, src := f.src, speed := v, control := refControl f,
    flags := refFlags f &&& 0xFD, originated := false }

/-- A substitute or zero frame of a channel as it waits for the downstream port (R95, R97). -/
def originatedItem (s : State) (c : Channel) (v : Speed) : RefItem :=
  { chan := c, dest := BitVec.ofInt 8 (s.params c).driveAddr, src := (s.ch c).rsv.lastController, speed := v,
    control := (s.ch c).rsv.lastControl, flags := 0x02, originated := true }

/-- The zero frame of a channel that has come to TRIPPED, or from BACKOUT to HELD (R97, R98, R114): where its
forwarded reference was not 0, one originated frame of speed 0 joins the reference queue, and where it was 0 none
does. -/
def ZeroFrameSent (s u : State) (c : Channel) : Prop :=
  ((s.ch c).rsv.forwarded ≠ 0 → s.refQueue.length < 4 →
    u.refQueue = s.refQueue ++ [originatedItem s c 0]) ∧
  ((s.ch c).rsv.forwarded = 0 → u.refQueue = s.refQueue)

/-- What an accepted frame leaves of a channel's reference context before its action (R82, R83): its control
byte and SRC, its arrival and its toggle, and LINK_LOSS false. -/
structure RefTaken (y : Chan) (f : LinkFrame) (now : Micros) : Prop where
  control    : y.rsv.lastControl = refControl f
  controller : y.rsv.lastController = f.src
  arrival    : y.rsv.lastAccepted = some now
  toggle     : y.rsv.lastToggle = some (refToggle f)
  linkLoss   : y.rsv.linkLoss = false

/-- The frame of a handled REF frame: but for the reference context that `RefTaken` gives, and for what the
routing of events may change, all stays. -/
structure RefFrameKept (s u : State) (c : Channel) : Prop where
  kept : Kept (s.updCh c fun x => { x with rsv := { x.rsv with
    lastAccepted := (u.ch c).rsv.lastAccepted
    lastToggle := (u.ch c).rsv.lastToggle
    lastControl := (u.ch c).rsv.lastControl
    lastController := (u.ch c).rsv.lastController
    linkLoss := (u.ch c).rsv.linkLoss
    lossCount := (u.ch c).rsv.lossCount } }) u


/-- The evaluation that a reference gap expiry makes of its routes: it trips the channel where LINK_LOSS, or the
LOSS_LIMIT of a third loss, has class TRIP (R91 to R93, R108). -/
def LossTrips (s : State) (c : Channel) : Prop :=
  (s.active.route c .linkLoss).cls = .trip ∨
    (s.ch c).state.moving = true ∧ (s.ch c).rsv.lossCount = 2 ∧ (s.active.route c .lossLimit).cls = .trip

/-- No channel in BACKOUT stands beyond an end limit, so that leaving BACKOUT raises no overwind (R58). -/
def BackoutsWithinLimits (s : State) : Prop :=
  ∀ v, (s.ch (convChannel v)).state = .backout →
    (s.active.convParams v).top ≤ (s.conv v).est ∧ (s.conv v).est ≤ (s.active.convParams v).bottom

/-- The speed of a channel one stopping step on (R87). -/
def State.stepped (s : State) (c : Channel) : Speed :=
  sgn (s.ch c).rsv.forwarded *
    min (max 0 (mag (s.ch c).rsv.forwarded - ceilDiv ((s.params c).aStop * (s.params c).tNom) 1000000))
      (s.permitToward c (s.ch c).rsv.forwarded)

/-- A reset of the part begins with a command: power-up, the RESET input, or the end of the reply to an accepted
SOFT RESET (R181, R182). -/
def ResetCause (c : Instr) (s : State) : Prop :=
  (∃ t, c = .powerOn t) ∨ (∃ t, c = .resetInputAsserted t) ∨
    (∃ t, c = .upstreamPortGrant t) ∧ s.inReset = false ∧ ∃ f, s.upTx = some ⟨f, true⟩

/-- The head of the request queue is a request that the part may execute (R175). -/
def HeadIs (s : State) (r : Req) : Prop :=
  s.inReset = false ∧ s.replies.length < 4 ∧
    ∃ q rest, s.requests = q :: rest ∧ decodeReq q.code q.params = some r

/-- A command may apply a commit (R163, R164): one is pending, to be judged, or the command is an accepted BANK
COMMIT with both channels at rest. -/
def CommitCause (c : Instr) (s : State) : Prop :=
  s.pendingCommit = true ∨
    (∃ t, c = .bankCommit t) ∧ HeadIs s .bankCommit ∧ s.shadowState = .valid ∧
      ∀ d, s.standsAtRest d = true

/-- A commit has been applied (R118, R163 to R165): the shadow has become the active bank whole, no barrier of the
table covers one of its home depths, and every channel stands and begins afresh. -/
def CommitApplied (s u : State) : Prop :=
  u.active = s.shadow ∧ u.activeLoaded = true ∧ u.pendingCommit = false ∧
    u.shadow = s.shadow ∧ u.shadowState = s.shadowState ∧ u.barrierConflict s.shadow = false ∧
    ∀ d, (s.shadow.inUse d = false → (u.ch d).state = .idle) ∧
      (s.shadow.inUse d = true → ((u.ch d).state = .held ∨ (u.ch d).state = .tripped) ∧
        (u.ch d).env.pDown = 0 ∧ (u.ch d).env.pUp = 0 ∧ (u.ch d).ctr.rebasePending = true ∧
        (u.ch d).ctr.feedbackValid = false ∧ (u.ch d).ctr.confirmed = false)

/-- A command cancels a pending commit (R164): an accepted shadow write, BANK COPY, BANK CHECK or COMMIT
CANCEL. -/
def CancelCause (c : Instr) (s : State) : Prop :=
  (∃ t e, c = .rowWrite t ∧ HeadIs s (.rowWrite e)) ∨ (∃ t e, c = .rowInsert t ∧ HeadIs s (.rowInsert e)) ∨
    (∃ t n i, c = .rowDelete t ∧ HeadIs s (.rowDelete n i)) ∨
    (∃ t n i bs, c = .entryWrite t ∧ HeadIs s (.entryWrite n i bs)) ∨
    (∃ t, c = .bankCopy t) ∧ HeadIs s .bankCopy ∨ (∃ t, c = .bankCheck t) ∧ HeadIs s .bankCheck ∨
    (∃ t, c = .commitCancel t) ∧ HeadIs s .commitCancel

/-- No pending commit is overdue (R164): while one is pending, some channel does not stand at rest, or a barrier
covers a home depth of the shadow's parameters. -/
def CommitNotOverdue (s : State) : Prop :=
  s.pendingCommit = true → (∀ d, s.standsAtRest d = true) → s.barrierConflict s.shadow = true

/-- A channel's flags after a commit that leaves it in use (R131): a flag that followed its condition is LATCHED
where its new route latches, follows on where the condition still holds, and is CLEAR where it has gone. -/
def FlagsCommitted (s u : State) (c : Channel) : Prop :=
  ∀ src : Source, (u.ch c).flag src =
    if (s.ch c).flag src = .following then
      if (s.shadow.route c src).cls = .trip ∨ (s.shadow.route c src).latch = .latch ∨ src.isState = false
      then .latched
      else if (u.ch c).live src = true then .following else .clear
    else (s.ch c).flag src

/-- A notice leaves a full queue for one of a class (R134): it is the oldest NOTE, or the oldest STOP where the
class is TRIP and no NOTE is held. -/
def MakesRoom (k : EvClass) (before : List Notice) (m : Notice) (after : List Notice) : Prop :=
  (m.body.cls = .note ∧ k ≠ .note ∧ ∀ n ∈ before, n.body.cls ≠ .note) ∨
    (m.body.cls = .stop ∧ k = .trip ∧ (∀ n ∈ before ++ after, n.body.cls ≠ .note) ∧
      ∀ n ∈ before, n.body.cls ≠ .stop)

/-- No notice leaves a full queue for one of a class (R134). -/
def NoRoom (k : EvClass) (held : List Notice) : Prop :=
  k = .note ∨ (k = .stop ∧ ∀ n ∈ held, n.body.cls ≠ .note) ∨
    (k = .trip ∧ ∀ n ∈ held, n.body.cls ≠ .note ∧ n.body.cls ≠ .stop)

/-- An event has been raised and routed (R107, R108, R124, R125): its flag is set, and its class's response has
been acted on. An occurrence's flag is LATCHED. -/
def EventTaken (s u : State) (c : Channel) (src : Source) : Prop :=
  ((u.ch c).flag src).isSet = true ∧ (src.isState = false → (u.ch c).flag src = .latched) ∧
    ((s.active.route c src).cls = .trip → (u.ch c).state = .tripped) ∧
    ((s.active.route c src).cls = .stop → (u.ch c).state.mayBlock = true)

/-- The fine units that an evaluation adds for the drum (R8). -/
def State.drumMoved (s : State) (c : Channel) (h : HeldFbk) : Int :=
  (s.params c).drumDir.sign * (fbkDrumCount h.frame - (s.ch c).ctr.lastDrumCount).toInt * (s.params c).sD

/-- The fine units that an evaluation of channel A adds for the measuring wheel (R8). -/
def State.wheelMoved (s : State) : Int :=
  (s.params .a).sheaveDir.sign * (s.chA.ctr.sheaveCounter - s.chA.ctr.lastSheaveCount).toInt *
    (s.params .a).sS

/-- The jump threshold J of a channel in fine units (R9). -/
def State.jumpLimit (s : State) (c : Channel) : Int :=
  Int.tdiv (2 * (s.params c).vMax * (s.params c).f * (s.params c).tNom) 1000000 * 2 ^ 20

/-- A jump is found by an evaluation (R9): it does not re-base, and an encoder has moved by more than the
threshold. -/
def JumpFound (s : State) (c : Channel) (h : HeldFbk) : Prop :=
  (s.ch c).ctr.rebasePending = false ∧
    (s.jumpLimit c < mag (s.drumMoved c h) ∨ c = .a ∧ s.jumpLimit c < mag s.wheelMoved)

/-- The jump check of an evaluation that leaves `u` (R9, R41): a jump clears Confirmed and raises COUNT_JUMP at
the estimate as it stands at the end, with the jump in mm, the drum's where both encoders jump. `q` is the notice
queue before the frame takes its head. -/
def JumpJudged (s u : State) (q : List Notice) (c : Channel) (h : HeldFbk) : Prop :=
  (JumpFound s c h → EventTaken s u c .countJump ∧ (u.ch c).ctr.confirmed = false ∧
    ((s.active.route c .countJump).notify = true → u.noticesLost = false → ∃ n ∈ q, n.body =
      { origin := .channel c .countJump, cls := (s.active.route c .countJump).cls, injected := false,
        conv := some (primaryOf c), depth := some (u.ch c).prim.est, speed := some (u.ch c).ctr.vMeas,
        value := some (Int.tdiv (if s.jumpLimit c < mag (s.drumMoved c h) then s.drumMoved c h
          else s.wheelMoved) (2 ^ 20)), offence := none })) ∧
  (¬ JumpFound s c h → (u.ch c).flag .countJump = (s.ch c).flag .countJump ∧
    (u.ch c).ctr.confirmed = ((s.ch c).ctr.confirmed && !(s.ch c).ctr.fbkLoss))

/-- A slip is found by an evaluation of channel A that leaves `u` (R14). -/
def SlipFound (s u : State) : Prop :=
  s.chA.ctr.rebasePending = false ∧ (s.params .a).slipStep < mag (u.chA.ctr.dDiv - s.chA.ctr.dDiv)

/-- The slip and creep checks of an evaluation of channel A (R13, R14). -/
def DivergenceJudged (s u : State) : Prop :=
  (SlipFound s u → EventTaken s u .a .ropeSlip) ∧
  (¬ SlipFound s u → u.chA.flag .ropeSlip = s.chA.flag .ropeSlip) ∧
  u.chA.ctr.creepExcess = decide ((s.params .a).creepLim < mag (u.chA.ctr.dDiv - u.chA.ctr.dBase)) ∧
  (s.chA.ctr.creepExcess = false → u.chA.ctr.creepExcess = true → EventTaken s u .a .creepExcess) ∧
  (s.chA.ctr.creepExcess = true → u.chA.ctr.creepExcess = false → u.chA.flag .creepExcess =
    if s.chA.flag .creepExcess = .following then .clear else s.chA.flag .creepExcess) ∧
  (s.chA.ctr.creepExcess = u.chA.ctr.creepExcess → u.chA.flag .creepExcess = s.chA.flag .creepExcess)

/-- The drive moves against its forwarded reference (R17). -/
def ReverseFound (s u : State) (c : Channel) : Prop :=
  (s.params c).vRest < mag (u.ch c).ctr.vMeas ∧ (s.params c).vRest < mag (s.ch c).rsv.forwarded ∧
    sgn (u.ch c).ctr.vMeas = -sgn (s.ch c).rsv.forwarded

/-- The reverse motion check of an evaluation (R17): motion against the reference leaves the channel TRIPPED, by
REVERSE_MOTION itself where no earlier stage can have tripped it. -/
def ReverseJudged (s u : State) (c : Channel) (h : HeldFbk) : Prop :=
  (ReverseFound s u c → (u.ch c).state = .tripped ∧
    (¬ JumpFound s c h → (c = .a → ¬ SlipFound s u) → (s.active.route c .creepExcess).cls ≠ .trip →
      (s.active.route c .markMissed).cls ≠ .trip → (∀ d, (s.ch d).state ≠ .backout) →
      EventTaken s u c .reverseMotion)) ∧
  (¬ ReverseFound s u c → (u.ch c).flag .reverseMotion = (s.ch c).flag .reverseMotion)

/-- The barrier judgement of an evaluation (R68): each conveyance shows whether a barrier covers it, and one that
comes into a barrier while it moves raises BARRIER_ENTRY. -/
def BarriersJudged (s u : State) (c : Channel) : Prop :=
  (∀ v, convChannel v = c →
    (u.conv v).inBarrier = (barrierAt s.restrictions v (u.conv v).est).isSome) ∧
  ((∃ v, convChannel v = c ∧ (s.conv v).inBarrier = false ∧ (u.conv v).inBarrier = true) →
    (s.params c).vRest < mag (u.ch c).ctr.vMeas → EventTaken s u c .barrierEntry) ∧
  ((∀ v, convChannel v = c → (u.conv v).inBarrier = true → (s.conv v).inBarrier = true) ∨
    mag (u.ch c).ctr.vMeas ≤ (s.params c).vRest →
    (u.ch c).flag .barrierEntry = (s.ch c).flag .barrierEntry)

/-- The derate judgement of an evaluation (R69, R70): an active group stays active down to its release, an
inactive one becomes so above its gate, the factor is the k of the lowest active group or 8, and a change of it
raises DERATE_CHANGE. -/
def DerateJudged (s u : State) (c : Channel) : Prop :=
  (∀ (i : Nat) (g : DerateGroup) (was : Bool), (s.active.derate c).groups[i]? = some g →
    (s.ch c).env.groups[i]? = some was → (u.ch c).env.groups[i]? = some (g.enable &&
      if was then decide (g.release ≤ (u.ch c).ctr.input g.select)
      else decide (g.gate < (u.ch c).ctr.input g.select))) ∧
  (∀ (i : Nat) (g : DerateGroup), (s.active.derate c).groups[i]? = some g →
    (u.ch c).env.groups[i]? = some true →
    (∀ j, j < i → (u.ch c).env.groups[j]? = some false) → (u.ch c).env.factor = g.k) ∧
  ((∀ on ∈ (u.ch c).env.groups, on = false) → (u.ch c).env.factor = 8) ∧
  ((u.ch c).env.factor ≠ (s.ch c).env.factor → EventTaken s u c .derateChange) ∧
  ((u.ch c).env.factor = (s.ch c).env.factor →
    (u.ch c).flag .derateChange = (s.ch c).flag .derateChange)

/-- The arm state of a valid mark entry after a judgement in a moving state (R28, R29), `prev` and `d` being the
previous and the present depth. -/
def ArmJudged (e : MarkEntry) (prev d : Depth) (before after : ArmState) : Prop :=
  match before with
  | .idle =>
    (prev < e.depth - 4 * e.tol → e.depth - 4 * e.tol ≤ d → e.dir ≠ .up →
      after = .armed .shallow (decide (e.depth + 4 * e.tol < d))) ∧
    (e.depth + 4 * e.tol < prev → d ≤ e.depth + 4 * e.tol → e.dir ≠ .down →
      after = .armed .deep (decide (d < e.depth - 4 * e.tol))) ∧
    (¬ (prev < e.depth - 4 * e.tol ∧ e.depth - 4 * e.tol ≤ d ∧ e.dir ≠ .up) →
      ¬ (e.depth + 4 * e.tol < prev ∧ d ≤ e.depth + 4 * e.tol ∧ e.dir ≠ .down) → after = .idle)
  | .armed .shallow passed => after = if d < e.depth - 4 * e.tol ∨ passed = true then .idle
      else .armed .shallow (decide (e.depth + 4 * e.tol < d))
  | .armed .deep passed => after = if e.depth + 4 * e.tol < d ∨ passed = true then .idle
      else .armed .deep (decide (d < e.depth - 4 * e.tol))

/-- An armed mark entry is found missed at a depth (R29): its passage was seen complete an evaluation ago, and the
conveyance has not turned back past the side it came from. -/
def MarkFoundMissed (e : MarkEntry) (d : Depth) (before : ArmState) : Prop :=
  before = .armed .shallow true ∧ e.depth - 4 * e.tol ≤ d ∨
    before = .armed .deep true ∧ d ≤ e.depth + 4 * e.tol

/-- A conveyance's own velocity, from its channel's measured one (R31). -/
def State.velocityOf (s : State) (v : Conveyance) : Speed :=
  if v = .cwt then -(s.ch (convChannel v)).ctr.vMeas else (s.ch (convChannel v)).ctr.vMeas

/-- An entry of the mark table is a candidate for an edge on a line (R31, R32), at the depth its conveyance has
moved to since the last feedback frame, over at most f × T_nom. -/
structure IsCandidate (s : State) (line : Nat) (edge : Micros) (k : Candidate) : Prop where
  index : k.index < 32
  entry : s.active.marks[k.index]? = some k.entry
  valid : k.entry.valid = true
  line  : k.entry.line = line
  inUse : s.active.inUse (convChannel k.entry.conv) = true
  moves : (s.ch (convChannel k.entry.conv)).state.moving = true
  fed   : (s.ch (convChannel k.entry.conv)).ctr.feedbackValid = true
  fast  : (s.params (convChannel k.entry.conv)).vRest < mag (s.ch (convChannel k.entry.conv)).ctr.vMeas
  dir   : k.entry.dir = .both ∨
    k.entry.dir = if 0 < s.velocityOf k.entry.conv then .down else .up
  depth : k.edge = (s.conv k.entry.conv).est + Int.tdiv (s.velocityOf k.entry.conv *
    min ((edge : Int) - ((s.ch (convChannel k.entry.conv)).ctr.lastArrival : Int))
      ((s.params (convChannel k.entry.conv)).f * (s.params (convChannel k.entry.conv)).tNom)) 1000000

/-- Every conveyance of a channel stands backout_clearance within its end limits (R114). -/
def StandsClear (s u : State) (c : Channel) : Prop :=
  ∀ v, convChannel v = c →
    (s.active.convParams v).top + (s.params c).clearance ≤ (u.conv v).est ∧
    (u.conv v).est ≤ (s.active.convParams v).bottom - (s.params c).clearance

/-- The ceiling target at a speed (R74). -/
def targetAt (p : Params) (v : Speed) : Speed := (v * (64 + p.tCeil)) / 64 + p.mAbs

/-- A ceiling moved toward its target at an evaluation (R75). -/
def ceilingMoved (p : Params) (held target : Speed) : Speed :=
  if held ≤ target then target else max target (held - ceilDiv (p.aTrip * p.tNom) 1000000)

/-- An evaluation in BACKOUT that no event disturbs (R53, R56, R73 to R75, R97, R114): the permits are held to
v_creep, the ceilings move toward the target of v_creep, the overwind conditions are judged by the thresholds
recorded, and clearance takes the channel to HELD with 0 forwarded. -/
def BackoutJudged (s u : State) (c : Channel) (b : BackoutRec) : Prop :=
  (c = .a →
    u.chA.env.pDown = min (min u.chA.prim.permitDown u.chA.cwt.permitUp) (s.params .a).vCreep ∧
    u.chA.env.pUp = min (min u.chA.prim.permitUp u.chA.cwt.permitDown) (s.params .a).vCreep) ∧
  (c = .b → u.chB.env.pDown = min u.chB.prim.permitDown (s.params .b).vCreep ∧
    u.chB.env.pUp = min u.chB.prim.permitUp (s.params .b).vCreep) ∧
  (u.ch c).env.ceilDown =
    ceilingMoved (s.params c) (s.ch c).env.ceilDown (targetAt (s.params c) (s.params c).vCreep) ∧
  (u.ch c).env.ceilUp =
    ceilingMoved (s.params c) (s.ch c).env.ceilUp (targetAt (s.params c) (s.params c).vCreep) ∧
  (StandsClear s u c → (u.ch c).state = .held ∧ (u.ch c).rsv.forwarded = 0 ∧
    (u.ch c).env.backout = none ∧ ZeroFrameSent s u c) ∧
  (¬ StandsClear s u c → (u.ch c).state = .backout ∧ (u.ch c).env.backout = some b ∧
    (u.ch c).rsv.forwarded = (s.ch c).rsv.forwarded ∧
    (u.ch c).env.overDeep = (decide (b.prim.deep < (u.ch c).prim.est) ||
      decide (c = .a) && decide (b.cwt.deep < (u.ch c).cwt.est)) ∧
    (u.ch c).env.overHigh = (decide ((u.ch c).prim.est < b.prim.high) ||
      decide (c = .a) && decide ((u.ch c).cwt.est < b.cwt.high)))

/-- Each limit of a row is no less than 0 (R43). -/
def RowSound (r : Row) : Prop := ∀ p, p < 4 → ∀ d, 0 ≤ (r.limits p).get d

/-- A bank's profile limits, derate steps and speeds of R60 are no less than 0 (R43, R60, R69, R151). -/
structure BankLimitsSound (b : Bank) : Prop where
  rows   : ∀ v, ∀ r ∈ b.profile v, RowSound r
  groups : ∀ c, ∀ g ∈ (b.derate c).groups, 0 ≤ g.k
  params : ∀ c, 0 ≤ (b.params c).vMax ∧ 0 ≤ (b.params c).vUnconf ∧ 0 ≤ (b.params c).vCreep ∧
    0 ≤ (b.params c).tCeil

/-- Every limit that the permits are formed from is no less than 0 (R43, R49, R63, R70). -/
structure LimitsSound (s : State) : Prop where
  active       : BankLimitsSound s.active
  shadow       : BankLimitsSound s.shadow
  latch        : RowSound s.editLatch
  restrictions : ∀ e ∈ s.restrictions, 0 ≤ e.cap
  profiles     : ∀ v, 0 ≤ (s.conv v).profDown ∧ 0 ≤ (s.conv v).profUp
  permits      : ∀ v, 0 ≤ (s.conv v).permitDown ∧ 0 ≤ (s.conv v).permitUp
  factors      : ∀ c, 0 ≤ (s.ch c).env.factor

/-- A channel's permits lie at or above 0, and in BACKOUT at or below v_creep; and while it is in use, neither
ceiling stands below its target (R56, R74, R75). -/
structure CeilingsHold (x : Chan) (p : Params) (inUse : Bool) : Prop where
  permits : 0 ≤ x.env.pDown ∧ 0 ≤ x.env.pUp
  creep   : x.state = .backout → x.env.pDown ≤ p.vCreep ∧ x.env.pUp ≤ p.vCreep
  down    : inUse = true →
    targetAt p (if x.state = .backout then p.vCreep else x.env.pDown) ≤ x.env.ceilDown
  up      : inUse = true →
    targetAt p (if x.state = .backout then p.vCreep else x.env.pUp) ≤ x.env.ceilUp

/-- The counterweight's estimate balances the cage's while channel A has valid feedback (R16). -/
def EstimatesBalanced (s : State) : Prop :=
  s.active.inUse .a = true → s.chA.ctr.feedbackValid = true →
    s.chA.cwt.est + s.chA.prim.est = (s.params .a).lBal

/-- The data of STATUS (R177, R178), field by field: each byte of it at its place. -/
structure StatusShows (s : State) (d : List Byte) : Prop where
  length    : d.length = 57
  address   : u32At d 0 = s.linkAddr.toNat
  states    : u8At d 4 = s.chA.state.code ∧ u8At d 5 = s.chB.state.code
  planes    : (s.chA.plane < 256 → u8At d 6 = s.chA.plane) ∧ (s.chB.plane < 256 → u8At d 7 = s.chB.plane)
  banks     : u8At d 8 = (if s.activeLoaded then 1 else 0) ∧ u8At d 9 = s.shadowState.code ∧
    u8At d 10 = if s.pendingCommit then 1 else 0
  notices   : u32At d 11 = s.seq ∧ u32At d 15 = s.notices.length ∧ u8At d 19 = if s.noticesLost then 1 else 0
  flags     : ∀ src : Source,
    u8At d (20 + src.num / 4) / 4 ^ (src.num % 4) % 4 = (s.chA.flag src).code ∧
    u8At d (26 + src.num / 4) / 4 ^ (src.num % 4) % 4 = (s.chB.flag src).code
  losses    : u32At d 32 = s.chA.rsv.lossCount ∧ u32At d 36 = s.chB.rsv.lossCount
  marks     : ∀ i f, s.markFilters[i]? = some f → (u16At d 40).toNat.testBit i = f.filtered
  permits   : ∀ i f, s.chA.permits[i]? = some f → (u16At d 42).toNat.testBit i = f.filtered
  permitsB  : ∀ i f, s.chB.permits[i]? = some f → (u16At d 42).toNat.testBit (8 + i) = f.filtered
  outputs   : u8At d 44 = (if s.chA.line.closed then 1 else 0) ∧
    u8At d 45 = (if s.chB.line.closed then 1 else 0) ∧
    u8At d 46 = (if s.chA.line.readback.filtered then 1 else 0) ∧
    u8At d 47 = (if s.chB.line.readback.filtered then 1 else 0) ∧
    u8At d 48 = if s.masterClosed then 1 else 0
  counts    : u16At d 49 = s.errUp ∧ u16At d 51 = s.errDown ∧ u16At d 53 = s.ovDown ∧ u16At d 55 = s.ovUp

/-- A number fits a signed field of four bytes. -/
def Fits32 (x : Int) : Prop := -(2 ^ 31) ≤ x ∧ x < 2 ^ 31

/-- A number fits a signed field of two bytes. -/
def Fits16 (x : Int) : Prop := -(2 ^ 15) ≤ x ∧ x < 2 ^ 15

/-- The data of CONVEYANCE READ (R177, R179), field by field; a number too great for its field is free
(log 18). -/
structure ConveyanceShows (s : State) (v : Conveyance) (d : List Byte) : Prop where
  length     : d.length = 56
  estimate   : Fits32 (s.conv v).est → s32At d 0 = (s.conv v).est
  depths     : (Fits32 (s.conv v).drumDepth → s32At d 4 = (s.conv v).drumDepth) ∧
    (Fits32 (s.conv v).sheaveDepth → s32At d 8 = (s.conv v).sheaveDepth)
  corrected  : Fits32 (s.conv v).corrTotal → s32At d 12 = (s.conv v).corrTotal
  payload    : 0 ≤ (s.conv v).payload → (s.conv v).payload < 2 ^ 32 → (u32At d 16 : Int) = (s.conv v).payload
  stretch    : Fits32 (s.conv v).stretch → s32At d 20 = (s.conv v).stretch
  speed      : Fits16 (s.ch (convChannel v)).ctr.vMeas → s16At d 24 = (s.ch (convChannel v)).ctr.vMeas
  indicated  : u8At d 26 = (if (s.ch (convChannel v)).ctr.feedbackValid then 1 else 0) ∧
    u8At d 27 = if (s.ch (convChannel v)).ctr.confirmed then 1 else 0
  correction : ∀ k, (s.conv v).correction = some k → u8At d 28 = 1 ∧
    (k.h < 256 → u8At d 30 = k.h) ∧ (k.l < 256 → u8At d 31 = k.l) ∧ (k.next < 256 → u8At d 32 = k.next) ∧
    (Fits32 k.delivered → s32At d 33 = k.delivered) ∧
    (-128 ≤ k.sign → k.sign < 128 → (byteAt d 29).toInt = k.sign)
  uncorrected : (s.conv v).correction = none → ∀ i, 28 ≤ i → i < 37 → byteAt d i = 0
  mark       : ∀ i, (s.conv v).lastMark = some i → i < 256 → u8At d 37 = 1 ∧ u8At d 38 = i
  unmarked   : (s.conv v).lastMark = none → u8At d 37 = 0 ∧ u8At d 38 = 0
  divergence : v ≠ .skip → (Fits32 s.chA.ctr.dDiv → s32At d 39 = s.chA.ctr.dDiv) ∧
    (Fits32 s.chA.ctr.dBase → s32At d 43 = s.chA.ctr.dBase)
  undiverged : v = .skip → s32At d 39 = 0 ∧ s32At d 43 = 0
  profile    : (Fits16 (s.conv v).profDown → s16At d 47 = (s.conv v).profDown) ∧
    (Fits16 (s.conv v).profUp → s16At d 49 = (s.conv v).profUp)
  permits    : (Fits16 (s.conv v).permitDown → s16At d 51 = (s.conv v).permitDown) ∧
    (Fits16 (s.conv v).permitUp → s16At d 53 = (s.conv v).permitUp)
  barrier    : u8At d 55 = if (s.conv v).inBarrier then 1 else 0

/-- The parameter bytes of an edit (R155, R177): profile, index, operation, source mode, plane enable, field mask
and depth, and then one DOWN and UP pair under SAME, or four under EACH. -/
def EditSpelled (ps : List Byte) (e : Edit) : Prop :=
  ∃ (p i same planes mask : Byte) (op : EditOp) (depth : BitVec 32) (pairs : List (BitVec 16 × BitVec 16)),
    same.toNat < 2 ∧ pairs.length = (if same = 1 then 1 else 4) ∧
    ps = [p, i, (match op with | .replace => 0 | .lower => 1 | .raise => 2 | .shift => 3), same, planes, mask] ++
      bytes32 depth ++ pairs.flatMap (fun l => bytes16 l.1 ++ bytes16 l.2) ∧
    e = ⟨p.toNat, i.toNat, op, same == 1, planes.toNat, mask.toNat, depth.toInt,
      pairs.map fun l => ⟨l.1.toInt, l.2.toInt⟩⟩

/-- The parameter bytes of a ROW FIND (R157, R177): bank, profile, start index, the compare row, field mask and
plane mask. -/
def FindSpelled (ps : List Byte) (f : FindQuery) : Prop :=
  ∃ (b p i mask planes : Byte) (depth : BitVec 32) (l0 l1 l2 l3 : BitVec 16 × BitVec 16), b.toNat < 2 ∧
    ps = [b, p, i] ++ bytes32 depth ++
      [l0, l1, l2, l3].flatMap (fun l => bytes16 l.1 ++ bytes16 l.2) ++ [mask, planes] ∧
    f = ⟨b == 1, p.toNat, i.toNat, ⟨depth.toInt, ⟨l0.1.toInt, l0.2.toInt⟩, ⟨l1.1.toInt, l1.2.toInt⟩,
      ⟨l2.1.toInt, l2.2.toInt⟩, ⟨l3.1.toInt, l3.2.toInt⟩⟩, mask.toNat, planes.toNat⟩

/-- The parameter bytes of a RESTRICT WRITE (R63, R65, R177): index, valid, base, k, cap and mask. -/
def RestrictSpelled (ps : List Byte) (index : Nat) (e : RestrictFields) : Prop :=
  ∃ (i valid mask : Byte) (base k : BitVec 32) (cap : BitVec 16), valid.toNat < 2 ∧
    ps = [i, valid] ++ bytes32 base ++ bytes32 k ++ bytes16 cap ++ [mask] ∧ index = i.toNat ∧
    e = ⟨valid == 1, base.toInt, k.toNat, cap.toInt, mask.toNat⟩

/-- The bytes that the parameter at an index is sent in (R151, R177). -/
def ParamLength (i k : Nat) : Prop :=
  i < 32 ∧ k = if i ∈ [0, 1, 7, 10, 30] then 1 else if i ∈ [4, 5, 22, 23, 25] then 2 else 4

/-- The entry at an index of a table exists, and is sent in a number of bytes (R150, R177, log 14, log 47). -/
def EntryLength (table i k : Nat) : Prop :=
  table = 3 ∧ i < 32 ∧ k = 12 ∨ (table = 4 ∨ table = 5) ∧ i < 24 ∧ k = 4 ∨
    (table = 6 ∨ table = 7) ∧ i < 4 ∧ k = 14 ∨ (table = 6 ∨ table = 7) ∧ (i = 4 ∨ i = 5) ∧ k = 6 ∨
    (table = 8 ∨ table = 9) ∧ ParamLength i k

/-- A mark entry as it is sent (R26, R177, log 47). -/
structure MarkShows (e : MarkEntry) (d : List Byte) : Prop where
  length : d.length = 12
  codes  : u8At d 0 = (if e.valid then 1 else 0) ∧ u8At d 2 = e.conv.code ∧ u8At d 11 = e.dir.code
  line   : e.line < 256 → u8At d 1 = e.line
  depth  : Fits32 e.depth → s32At d 3 = e.depth
  tol    : 0 ≤ e.tol → e.tol < 2 ^ 32 → (u32At d 7 : Int) = e.tol

/-- A route entry as it is sent (R122, R177). -/
structure RouteShows (r : Route) (d : List Byte) : Prop where
  length : d.length = 4
  codes  : u8At d 0 = r.cls.rank ∧ u8At d 1 = (if r.latch = .latch then 1 else 0) ∧
    u8At d 2 = (if r.scope = .both then 1 else 0) ∧ u8At d 3 = if r.notify then 1 else 0

/-- A derate group as it is sent (R69, R177, log 47). -/
structure DerateShows (g : DerateGroup) (d : List Byte) : Prop where
  length  : d.length = 14
  enable  : u8At d 0 = if g.enable then 1 else 0
  select  : g.select < 256 → u8At d 1 = g.select
  gate    : 0 ≤ g.gate → g.gate < 2 ^ 32 → (u32At d 2 : Int) = g.gate
  release : 0 ≤ g.release → g.release < 2 ^ 32 → (u32At d 6 : Int) = g.release
  k       : 0 ≤ g.k → g.k < 2 ^ 32 → (u32At d 10 : Int) = g.k

/-- A low alarm group as it is sent (R71, R177, log 47). -/
structure AlarmShows (g : LowAlarm) (d : List Byte) : Prop where
  length : d.length = 6
  enable : u8At d 0 = if g.enable then 1 else 0
  select : g.select < 256 → u8At d 1 = g.select
  gate   : 0 ≤ g.gate → g.gate < 2 ^ 32 → (u32At d 2 : Int) = g.gate

/-- The parameter at an index as it is sent (R151, R177): the speeds and the depths signed. -/
structure ParamShows (i : Nat) (x : Int) (d : List Byte) : Prop where
  length   : ParamLength i d.length
  byte     : d.length = 1 → 0 ≤ x → x < 256 → (u8At d 0 : Int) = x
  speed    : d.length = 2 → Fits16 x → s16At d 0 = x
  depth    : 15 ≤ i → i ≤ 20 → Fits32 x → s32At d 0 = x
  quantity : d.length = 4 → ¬ (15 ≤ i ∧ i ≤ 20) → 0 ≤ x → x < 2 ^ 32 → (u32At d 0 : Int) = x

/-- A channel has the parameter at an index (R151). -/
def HasParam (c : Channel) (i : Nat) : Prop :=
  i < 32 ∧ (c = .a → i ≠ 14) ∧ (c = .b → ¬ (9 ≤ i ∧ i ≤ 13) ∧ ¬ (18 ≤ i ∧ i ≤ 20))

/-- The entries of a bank as they are sent (R150, R158, R177), each table with its own; a parameter that a channel
lacks reads 0, and of any other table or index there is none. -/
structure EntriesShown (b : Bank) : Prop where
  marks   : ∀ i e, b.marks[i]? = some e → ∃ d, b.entryBytes 3 i = some d ∧ MarkShows e d
  routes  : ∀ i r, (b.routesA[i]? = some r → ∃ d, b.entryBytes 4 i = some d ∧ RouteShows r d) ∧
    (b.routesB[i]? = some r → ∃ d, b.entryBytes 5 i = some d ∧ RouteShows r d)
  derates : ∀ i g, (b.derateA.groups[i]? = some g → ∃ d, b.entryBytes 6 i = some d ∧ DerateShows g d) ∧
    (b.derateB.groups[i]? = some g → ∃ d, b.entryBytes 7 i = some d ∧ DerateShows g d)
  alarms  : (∃ d, b.entryBytes 6 4 = some d ∧ AlarmShows b.derateA.alarm0 d) ∧
    (∃ d, b.entryBytes 6 5 = some d ∧ AlarmShows b.derateA.alarm1 d) ∧
    (∃ d, b.entryBytes 7 4 = some d ∧ AlarmShows b.derateB.alarm0 d) ∧
    ∃ d, b.entryBytes 7 5 = some d ∧ AlarmShows b.derateB.alarm1 d
  params  : ∀ i, i < 32 → ∀ c n, c = .a ∧ n = 8 ∨ c = .b ∧ n = 9 → ∃ d, b.entryBytes n i = some d ∧
    (HasParam c i → ParamShows i ((b.params c).get i) d) ∧ (¬ HasParam c i → ParamShows i 0 d)
  absent  : ∀ n i, (∀ k, ¬ EntryLength n i k) → b.entryBytes n i = none

/-- A profile row as it is sent (R43, R177). -/
structure RowShows (r : Row) (d : List Byte) : Prop where
  length : d.length = 20
  depth  : Fits32 r.depth → s32At d 0 = r.depth
  limits : ∀ p, p < 4 → (Fits16 (r.limits p).down → s16At d (4 + 4 * p) = (r.limits p).down) ∧
    (Fits16 (r.limits p).up → s16At d (6 + 4 * p) = (r.limits p).up)

/-- A restriction entry as it is sent (R63, R177, R180). -/
structure RestrictionShows (e : Restriction) (d : List Byte) : Prop where
  length : d.length = 12
  valid  : u8At d 0 = if e.valid then 1 else 0
  base   : Fits32 e.base → s32At d 1 = e.base
  k      : e.k < 2 ^ 32 → u32At d 5 = e.k
  cap    : Fits16 e.cap → s16At d 9 = e.cap
  mask   : ∀ v, (u8At d 11).testBit v.code = e.mask.has v

/-- The request that a code and parameter bytes spell (R174, R177): its parameters one after another, most
significant byte first, and no more (the widths: logs 14 and 47). -/
structure DecodesAs (decode : Byte → List Byte → Option Req) : Prop where
  bare     : ∀ ps, decode 1 ps = (if ps = [] then some .status else none) ∧
    decode 12 ps = (if ps = [] then some .bankCopy else none) ∧
    decode 13 ps = (if ps = [] then some .bankCheck else none) ∧
    decode 14 ps = (if ps = [] then some .bankCommit else none) ∧
    decode 15 ps = (if ps = [] then some .commitCancel else none) ∧
    decode 20 ps = if ps = [] then some .softReset else none
  one      : ∀ x : Byte, decode 2 [x] = some (.conveyanceRead x.toNat) ∧
    decode 10 [x] = some (.restrictRead x.toNat) ∧ decode 17 [x] = some (.clear x.toNat) ∧
    decode 18 [x] = some (.backout x.toNat)
  two      : ∀ x y : Byte, decode 6 [x, y] = some (.rowDelete x.toNat y.toNat) ∧
    decode 16 [x, y] = some (.duty x.toNat y.toNat) ∧ decode 19 [x, y] = some (.eventInject x.toNat y.toNat)
  three    : ∀ b x y : Byte,
    decode 3 [b, x, y] = (if b.toNat < 2 then some (.rowRead (b == 1) x.toNat y.toNat) else none) ∧
    decode 8 [b, x, y] = if b.toNat < 2 then some (.entryRead (b == 1) x.toNat y.toNat) else none
  edit     : ∀ ps r, (decode 4 ps = some r ↔ ∃ e, EditSpelled ps e ∧ r = .rowWrite e) ∧
    (decode 5 ps = some r ↔ ∃ e, EditSpelled ps e ∧ r = .rowInsert e)
  find     : ∀ ps r, decode 7 ps = some r ↔ ∃ f, FindSpelled ps f ∧ r = .rowFind f
  entry    : ∀ (n i : Byte) (bs : List Byte),
    (∀ k, EntryLength n.toNat i.toNat k → decode 9 (n :: i :: bs) =
      if bs.length = k then some (.entryWrite n.toNat i.toNat bs) else none) ∧
    ((∀ k, ¬ EntryLength n.toNat i.toNat k) →
      decode 9 (n :: i :: bs) = some (.entryWrite n.toNat i.toNat bs))
  restrict : ∀ ps r, decode 11 ps = some r ↔ ∃ i e, RestrictSpelled ps i e ∧ r = .restrictWrite i e
  lengths  : ∀ ps, (ps.length ≠ 1 → decode 2 ps = none ∧ decode 10 ps = none ∧ decode 17 ps = none ∧
      decode 18 ps = none) ∧
    (ps.length ≠ 2 → decode 6 ps = none ∧ decode 16 ps = none ∧ decode 19 ps = none) ∧
    (ps.length ≠ 3 → decode 3 ps = none ∧ decode 8 ps = none) ∧ (ps.length < 2 → decode 9 ps = none)
  unknown  : ∀ (code : Byte) ps, code = 0 ∨ 20 < code.toNat → decode code ps = none

/-- A channel owns a conveyance of an entry's mask in use (R62). -/
def Concerned (s : State) (e : Restriction) (c : Channel) : Prop :=
  ∃ w, convChannel w = c ∧ e.mask.has w = true ∧ s.active.convInUse w = true

/-- A conveyance in a restriction recompute (R62, R66, R68): its permits are the lesser of composed and held, and
its barrier is judged, where its channel is concerned; nothing else of it changes. -/
structure RestrictedConv (s u : State) (e : Restriction) (v : Conveyance) : Prop where
  frame   : u.conv v = { s.conv v with
    permitDown := (u.conv v).permitDown
    permitUp := (u.conv v).permitUp
    inBarrier := (u.conv v).inBarrier }
  context : (u.ch (convChannel v)).ctr = (s.ch (convChannel v)).ctr
  lowered : Concerned s e (convChannel v) →
    (u.conv v).permitDown = min (u.composed v).down (s.conv v).permitDown ∧
    (u.conv v).permitUp = min (u.composed v).up (s.conv v).permitUp ∧
    (u.conv v).inBarrier = (barrierAt u.restrictions v (u.conv v).est).isSome
  bounded : (u.conv v).permitDown ≤ (s.conv v).permitDown ∧ (u.conv v).permitUp ≤ (s.conv v).permitUp
  kept    : ¬ Concerned s e (convChannel v) → u.conv v = s.conv v

/-- A channel in a restriction recompute (R62, R66, log 23): no permit rises, and its permits are the lesser of
formed and held, where it is concerned, and stay where it is not. (In BACKOUT they are held to v_creep already.) -/
structure RestrictedChannel (s u : State) (e : Restriction) (c : Channel) : Prop where
  lowered : Concerned s e c →
    ((s.ch c).state = .backout →
      (s.ch c).env.pDown ≤ (s.params c).vCreep ∧ (s.ch c).env.pUp ≤ (s.params c).vCreep) →
    (u.ch c).env.pDown = min (match c with
      | .a => min u.chA.prim.permitDown u.chA.cwt.permitUp
      | .b => u.chB.prim.permitDown) (s.ch c).env.pDown ∧
    (u.ch c).env.pUp = min (match c with
      | .a => min u.chA.prim.permitUp u.chA.cwt.permitDown
      | .b => u.chB.prim.permitUp) (s.ch c).env.pUp
  bounded : (u.ch c).env.pDown ≤ (s.ch c).env.pDown ∧ (u.ch c).env.pUp ≤ (s.ch c).env.pUp
  kept    : ¬ Concerned s e c →
    (u.ch c).env.pDown = (s.ch c).env.pDown ∧ (u.ch c).env.pUp = (s.ch c).env.pUp

/-- A mark entry is read from its bytes (R26, R158): one with valid NO as all 0, whatever the rest; another with
every field in its range (a byte of no meaning lies outside: log 17). -/
def MarkRead (bs : List Byte) (e : MarkEntry) : Prop :=
  u8At bs 0 = 0 ∧ e = ⟨false, 0, .cage, 0, 0, .down⟩ ∨
    u8At bs 0 = 1 ∧ e.valid = true ∧ u8At bs 1 = e.line ∧ e.line ≤ 15 ∧ u8At bs 2 = e.conv.code ∧
      s32At bs 3 = e.depth ∧ -30000 ≤ e.depth ∧ e.depth ≤ 4200000 ∧
      (u32At bs 7 : Int) = e.tol ∧ 1 ≤ e.tol ∧ e.tol ≤ 4095 ∧ u8At bs 11 = e.dir.code

/-- A route entry is read from its bytes (R122). -/
def RouteRead (bs : List Byte) (r : Route) : Prop :=
  u8At bs 0 = r.cls.rank ∧ u8At bs 1 = (if r.latch = .latch then 1 else 0) ∧
    u8At bs 2 = (if r.scope = .both then 1 else 0) ∧ u8At bs 3 = if r.notify then 1 else 0

/-- A derate group is read from its bytes, with every field in its range (R69). -/
def DerateRead (bs : List Byte) (g : DerateGroup) : Prop :=
  u8At bs 0 = (if g.enable then 1 else 0) ∧ u8At bs 1 = g.select ∧ g.select ≤ 3 ∧
    (u32At bs 2 : Int) = g.gate ∧ g.gate ≤ 65535 ∧ (u32At bs 6 : Int) = g.release ∧ g.release ≤ g.gate ∧
    (u32At bs 10 : Int) = g.k ∧ 1 ≤ g.k ∧ g.k ≤ 8

/-- A low alarm group is read from its bytes, with every field in its range (R71). -/
def AlarmRead (bs : List Byte) (g : LowAlarm) : Prop :=
  u8At bs 0 = (if g.enable then 1 else 0) ∧ u8At bs 1 = g.select ∧ g.select ≤ 3 ∧
    (u32At bs 2 : Int) = g.gate ∧ g.gate ≤ 65535

/-- The entries that bytes spell (R26, R69, R71, R122, R158; the widths: logs 14 and 47). -/
structure EntriesRead : Prop where
  marks   : ∀ bs e, decodeMark bs = some e ↔ MarkRead bs e
  routes  : ∀ bs r, decodeRoute bs = some r ↔ RouteRead bs r
  derates : ∀ bs g, decodeDerate bs = some g ↔ DerateRead bs g
  alarms  : ∀ bs g, decodeAlarm bs = some g ↔ AlarmRead bs g

/-- The parameter at an index lies in its accepted range, its bounds between parameters included (R161 step 2, with
R3, R52, R60, R78, R139). An index not named here has no value outside its range. -/
def ParamIn (c : Channel) (p : Params) (i : Nat) : Prop :=
  match i with
  | 1 => 0 ≤ p.driveAddr ∧ p.driveAddr ≤ 255
  | 2 => 1000 ≤ p.tNom ∧ p.tNom ≤ 20000
  | 3 => 2 ≤ p.f ∧ p.f ≤ 8
  | 4 => 1 ≤ p.vMax ∧ p.vMax ≤ 20000
  | 5 => 0 ≤ p.vRest ∧ p.vRest ≤ 1000
  | 6 => 1 ≤ p.sD ∧ p.sD ≤ 1048576
  | 8 => 0 ≤ p.datum ∧ p.datum ≤ 4294967295
  | 9 => 1 ≤ p.sS ∧ p.sS ≤ 1048576
  | 11 => 0 ≤ p.lBal ∧ p.lBal ≤ 4200000
  | 12 => 1 ≤ p.creepLim ∧ p.creepLim ≤ 100000
  | 13 => 1 ≤ p.slipStep ∧ p.slipStep ≤ 10000
  | 14 => 0 ≤ p.k ∧ p.k ≤ 65535
  | 15 => -29999 ≤ p.prim.top ∧ p.prim.top ≤ 4199998
  | 16 => -29998 ≤ p.prim.bottom ∧ p.prim.bottom ≤ 4199999 ∧ p.prim.top < p.prim.bottom
  | 17 => -29999 ≤ p.prim.home ∧ p.prim.home ≤ 4199999 ∧ p.prim.top ≤ p.prim.home ∧
    p.prim.home ≤ p.prim.bottom
  | 18 => -29999 ≤ p.cwt.top ∧ p.cwt.top ≤ 4199998
  | 19 => -29998 ≤ p.cwt.bottom ∧ p.cwt.bottom ≤ 4199999 ∧ p.cwt.top < p.cwt.bottom
  | 20 => -29999 ≤ p.cwt.home ∧ p.cwt.home ≤ 4199999 ∧ p.cwt.top ≤ p.cwt.home ∧ p.cwt.home ≤ p.cwt.bottom
  | 21 => 1 ≤ p.clearance ∧ p.clearance ≤ 100000 ∧ 2 * p.clearance ≤ p.prim.bottom - p.prim.top ∧
    (c = .a → 2 * p.clearance ≤ p.cwt.bottom - p.cwt.top ∧
      ∃ d : Int, p.prim.top + p.clearance ≤ d ∧ d ≤ p.prim.bottom - p.clearance ∧
        p.cwt.top + p.clearance ≤ p.lBal - d ∧ p.lBal - d ≤ p.cwt.bottom - p.clearance)
  | 22 => 1 ≤ p.vUnconf ∧ p.vUnconf ≤ 20000 ∧ p.vUnconf ≤ p.vMax
  | 23 => 1 ≤ p.vCreep ∧ p.vCreep ≤ 20000 ∧ p.vCreep ≤ p.vMax
  | 24 => 0 ≤ p.tCeil ∧ p.tCeil ≤ 15
  | 25 => 0 ≤ p.mAbs ∧ p.mAbs ≤ 1000
  | 26 => 1 ≤ p.aStop ∧ p.aStop ≤ 20000
  | 27 => 1 ≤ p.aTrip ∧ p.aTrip ≤ 20000 ∧ p.aStop ≤ p.aTrip
  | 28 => 2 ≤ p.g ∧ p.g ≤ 8
  | 29 => 100 ≤ p.tLong ∧ p.tLong ≤ 5000
  | 31 => 10 ≤ p.tRb ∧ p.tRb ≤ 200
  | _ => True

/-- A mark entry of a bank that the CHECK examines: valid, and of an in-use conveyance (R161 steps 8 and 9). -/
def MarkExamined (b : Bank) (i : Nat) (e : MarkEntry) : Prop :=
  b.marks[i]? = some e ∧ e.valid = true ∧ b.convInUse e.conv = true

/-- A bank has an offence (R161): its reason's examination fails at its table and index. -/
def Offends (linkAddr : Byte) (b : Bank) (o : Offence) : Prop :=
  match o.reason with
  | .noChannel => o.table = 8 ∧ o.index = 0 ∧ ∀ c, b.inUse c = false
  | .paramRange => ∃ c, b.inUse c = true ∧ (c = .a ∧ o.table = 8 ∨ c = .b ∧ o.table = 9) ∧
    HasParam c o.index ∧ ¬ ParamIn c (b.params c) o.index
  | .paramAddress => ∃ c, b.inUse c = true ∧ (c = .a ∧ o.table = 8 ∨ c = .b ∧ o.table = 9) ∧ o.index = 1 ∧
    ((b.params c).driveAddr = (linkAddr.toNat : Int) ∨
      c = .b ∧ b.inUse .a = true ∧ b.paramsB.driveAddr = b.paramsA.driveAddr)
  | .profileLength => ∃ v, b.convInUse v = true ∧ o.table = v.code ∧ o.index = (b.profile v).length ∧
    (b.profile v).length < 2
  | .profileOrder => ∃ v i r r', b.convInUse v = true ∧ o.table = v.code ∧ o.index = i + 1 ∧
    (b.profile v)[i]? = some r ∧ (b.profile v)[i + 1]? = some r' ∧ r'.depth ≤ r.depth
  | .profileLimit => ∃ v r p d, b.convInUse v = true ∧ o.table = v.code ∧
    (b.profile v)[o.index]? = some r ∧ p < 4 ∧ (b.params (convChannel v)).vMax < (r.limits p).get d
  | .profileSpan => ∃ v r, b.convInUse v = true ∧ o.table = v.code ∧ (b.profile v)[o.index]? = some r ∧
    (o.index = 0 ∧ (b.convParams v).top < r.depth ∨
      o.index + 1 = (b.profile v).length ∧ r.depth < (b.convParams v).bottom)
  | .markRange => ∃ e, o.table = 3 ∧ MarkExamined b o.index e ∧
    ¬ ((b.convParams e.conv).top ≤ e.depth ∧ e.depth ≤ (b.convParams e.conv).bottom)
  | .markKey => ∃ e i k, o.table = 3 ∧ MarkExamined b o.index e ∧ i < o.index ∧ MarkExamined b i k ∧
    k.conv = e.conv ∧ (k.line = e.line ∨ k.depth = e.depth)

/-- The turn at which the CHECK comes to an offence (R161): NO_CHANNEL first, then the parameters of channel A and
of channel B by index, then the profiles of tables 0, 1 and 2, each by its length and then row by row, and then the
mark entries; at one place in the order of the reasons. -/
def Offence.turn (o : Offence) : Nat :=
  match o.reason with
  | .noChannel => 0
  | .paramRange => 100 * o.table + 2 * o.index
  | .paramAddress => 100 * o.table + 3
  | .profileLength => 1000 * (o.table + 1)
  | .profileOrder => 1000 * (o.table + 1) + 3 * o.index + 1
  | .profileLimit => 1000 * (o.table + 1) + 3 * o.index + 2
  | .profileSpan => 1000 * (o.table + 1) + 3 * o.index + 3
  | .markRange => 4000 + 2 * o.index
  | .markKey => 4000 + 2 * o.index + 1

/-- The profiles that R152 promises of a LOADED active bank: each of an in-use conveyance has 2 to 96 rows in
strictly ascending depth, spans its end limits, and has no limit above the v_max of its channel. -/
structure ProfilesPromised (b : Bank) : Prop where
  length : ∀ v, b.convInUse v = true → 2 ≤ (b.profile v).length ∧ (b.profile v).length ≤ 96
  order  : ∀ v, b.convInUse v = true → (b.profile v).Pairwise fun r r' => r.depth < r'.depth
  limits : ∀ v, b.convInUse v = true → ∀ r ∈ b.profile v, ∀ p, p < 4 → ∀ d,
    (r.limits p).get d ≤ (b.params (convChannel v)).vMax
  spans  : ∀ v, b.convInUse v = true →
    (∀ r, (b.profile v).head? = some r → r.depth ≤ (b.convParams v).top) ∧
    ∀ r, (b.profile v).getLast? = some r → (b.convParams v).bottom ≤ r.depth

/-- The CHECK of a bank (R152, R161): it reports the first of the bank's offences, and finds none exactly where the
bank has none, which gives what R152 promises. -/
def CheckFinds (linkAddr : Byte) (b : Bank) : Prop :=
  (checkBank linkAddr b = none ↔ ∀ o, ¬ Offends linkAddr b o) ∧
  (∀ o, checkBank linkAddr b = some o ↔ Offends linkAddr b o ∧ ∀ k, Offends linkAddr b k → o.turn ≤ k.turn) ∧
  (checkBank linkAddr b = none → ProfilesPromised b)

end Sys2Proof.Machine
end

