-- ==== Sys2Proof/Certificates/Slice0/Obligations.lean ====
section
/-! DEFINITION. The statements for the provers: what each command does, the frame of what it leaves alone,
and the promises that every step keeps. -/

open Sys2Proof Sys2Proof.Machine

/-- A step executes the command at the front of the queue on the state with the queue's rest, and on an empty
queue the part idles (log 3, log 4: the queue is the model's). -/
def Obligations.StepRunsFrontCommand : Prop :=
  (∀ (c : Instr) (rest : List Instr) (s : State),
    step { s with pending := c :: rest } = exec c { s with pending := rest }) ∧
  ∀ s : State, s.pending = [] → step s = .next s

/-- Every command completes in every state, takes the timebase to its moment (never back), and leaves the
queue of waiting commands alone (log 1, log 3). -/
def Obligations.EveryCommandCompletes : Prop :=
  ∀ (c : Instr) (s : State),
    ∃ u, exec c s = .next u ∧ u.pending = s.pending ∧ u.now = max s.now c.moment

/-- The state after reset holds the reset values of every block, and the part is out of reset with both generators
started (R137, R148, R167, R182; the pins' levels are log 27's, the last arrival time log 31's). The promises that
every step keeps all hold of it. -/
def Obligations.ResetStateHoldsResetValues : Prop :=
  (ResetContents State.reset ∧ State.reset.inReset = false ∧ State.reset.linkAddr = 0x40 ∧
     State.reset.holdOn = true ∧ State.reset.holdHigh = true ∧
     State.reset.flashOn = true ∧ State.reset.flashLit = true) ∧
  WithinCapacity State.reset ∧ LossBounded State.reset ∧ LinesFollow State.reset ∧
    ReferencesSound State.reset ∧ IdleUnused State.reset ∧ BankAutomaton State.reset ∧
    BanksChecked State.reset ∧ FlagsObeyed State.reset ∧ MasterSound State.reset ∧
    StandingQuiet State.reset.chA ∧ StandingQuiet State.reset.chB ∧ Shaped State.reset ∧
    RestrictionsDistinct State.reset ∧ BeaconsJudged State.reset ∧ State.reset.raised = [] ∧
    LimitsSound State.reset ∧ EstimatesBalanced State.reset ∧ CommitNotOverdue State.reset ∧
    ∀ c, CeilingsHold (State.reset.ch c) (State.reset.params c) (State.reset.active.inUse c)

/-- R182: at power-up, and when the RESET input is asserted, every block takes its reset values and the outputs are
held; the pins, the link address and the other holds of the part stay, and the timebase runs on to the command's
moment. (That the blocks and filters stand at these values from the beginning of the reset on is the model's
reading, log 30, and that the last arrival time is 0 its choice, log 31. That power-up ends a SOFT RESET's period,
and that the RESET input leaves it running, is the model's reading: log 29.) -/
def Obligations.ResetBegins : Prop :=
  ∀ (t : Micros) (s : State),
    (∃ u, exec (.powerOn t) s = .next u ∧ ResetContents u ∧ OutputsHeld u ∧ PinsKept s u ∧
      u.now = max s.now t ∧ u.powerReset = true ∧ u.inputReset = s.inputReset ∧ u.softReset = none) ∧
    (∃ u, exec (.resetInputAsserted t) s = .next u ∧ ResetContents u ∧ OutputsHeld u ∧ PinsKept s u ∧
      u.now = max s.now t ∧ u.inputReset = true ∧ u.powerReset = s.powerReset ∧ u.softReset = s.softReset)

/-- R182, R172, R148: when the last reset that holds the part ends, the straps and the inputs are sampled,
the generators start, and nothing else changes; while another reset still holds it, it stays in reset. (That the
last of several resets ends it is the model's reading: log 29; that a SOFT RESET's period whose end is taken late
ends then is its choice: log 2.) -/
def Obligations.ResetEnds : Prop :=
  ∀ (t : Micros) (straps : BitVec 4) (s : State),
    (s.powerReset = true → s.inputReset = false → s.softReset = none →
      ∃ u, exec (.supplyEstablished t straps) s = .next u ∧ ResetEnded (s.advance t) u straps) ∧
    (s.inputReset = true → s.powerReset = false → s.softReset = none →
      ∃ u, exec (.resetInputDeasserted t straps) s = .next u ∧ ResetEnded (s.advance t) u straps) ∧
    (∀ since, s.softReset = some since → since + 1000 ≤ max s.now t →
      s.powerReset = false → s.inputReset = false →
      ∃ u, exec (.softResetPeriodEnd t straps) s = .next u ∧ ResetEnded (s.advance t) u straps) ∧
    (s.powerReset = true → (s.inputReset = true ∨ s.softReset.isSome = true) →
      exec (.supplyEstablished t straps) s = .next { s.advance t with powerReset := false }) ∧
    (s.inputReset = true → (s.powerReset = true ∨ s.softReset.isSome = true) →
      exec (.resetInputDeasserted t straps) s = .next { s.advance t with inputReset := false })

/-- R182: a part in reset takes in no frame, runs no timer and executes no request: every command but those
of its pins and of the resets leaves everything but the timebase alone. -/
def Obligations.CommandsLostInReset : Prop :=
  ∀ (c : Instr) (s : State), s.inReset = true → c.actsInReset = false →
    exec c s = .next (s.advance c.moment)

/-- R168, R169: a run of bytes is taken in as a frame exactly when it is that frame's bytes, LEN and CRC
included. -/
def Obligations.FramesReadAsWritten : Prop :=
  ∀ (bytes : List Byte) (f : LinkFrame),
    parseFrame bytes = some f ↔ f.payload.length ≤ 60 ∧ bytes = frameBytes f

/-- R169: a run of bytes that spells no good frame is discarded, and the port's error count increases by 1
and stays at 65,535. A REF frame for an in-use drive whose LEN is not 4, an FBK frame from one whose LEN is not
17, and an MREQ for the part whose LEN is under 2, are bad frames too, whether taken in as frames or as the bytes of
a run (that every row that takes a frame in sorts it by its own bytes is the model's reading: log 6). -/
def Obligations.BadFramesAreCounted : Prop :=
  (∀ (t : Micros) (bytes : List Byte) (s : State), Running s → parseFrame bytes = none →
     exec (.badFrame t .up bytes) s =
       .next { s.advance t with errUp := if s.errUp < 65535 then s.errUp + 1 else s.errUp } ∧
     exec (.badFrame t .down bytes) s =
       .next { s.advance t with errDown := if s.errDown < 65535 then s.errDown + 1 else s.errDown }) ∧
  ∀ (t : Micros) (f : LinkFrame) (c : Channel) (s : State), Running s → f.payload.length ≤ 60 →
    (f.kind = LinkFrame.kindRef → Serves s c f.dest → f.payload.length ≠ 4 →
      exec (.passThroughFrame t .up f) s = .next { s.advance t with errUp := bump s.errUp } ∧
      exec (.badFrame t .up (frameBytes f)) s = .next { s.advance t with errUp := bump s.errUp }) ∧
    (f.kind = LinkFrame.kindFbk → Serves s c f.src → f.payload.length ≠ 17 →
      exec (.passThroughFrame t .down f) s = .next { s.advance t with errDown := bump s.errDown } ∧
      exec (.badFrame t .down (frameBytes f)) s = .next { s.advance t with errDown := bump s.errDown }) ∧
    (f.kind = LinkFrame.kindMreq → f.dest = s.linkAddr → f.payload.length < 2 →
      exec (.passThroughFrame t .up f) s = .next { s.advance t with errUp := bump s.errUp } ∧
      exec (.badFrame t .up (frameBytes f)) s = .next { s.advance t with errUp := bump s.errUp })

/-- R170, R99: a good frame that is no block's passes to the other port unchanged, through a buffer of 4
frames; one that finds the buffer full is discarded and counted. -/
def Obligations.PassThroughJoinsItsBuffer : Prop :=
  ∀ (t : Micros) (f : LinkFrame) (s : State), Running s → f.payload.length ≤ 60 →
    ((f.kind = LinkFrame.kindRef → ∀ c, ¬ Serves s c f.dest) →
      ¬ (f.kind = LinkFrame.kindMreq ∧ f.dest = s.linkAddr) →
      exec (.passThroughFrame t .up f) s = .next
        (if s.passDown.length < 4 then { s.advance t with passDown := s.passDown ++ [f] }
         else { s.advance t with ovDown := bump s.ovDown })) ∧
    ((f.kind = LinkFrame.kindFbk → ∀ c, ¬ Serves s c f.src) →
      exec (.passThroughFrame t .down f) s = .next
        (if s.passUp.length < 4 then { s.advance t with passUp := s.passUp ++ [f] }
         else { s.advance t with ovUp := bump s.ovUp }))

/-- R175: an MREQ for the part joins a queue of 4; one that finds it full is answered BUSY at once, and one
that finds the reply buffer full as well is lost and counted. -/
def Obligations.RequestsQueueOrAreAnsweredBusy : Prop :=
  ∀ (t : Micros) (f : LinkFrame) (s : State), Running s →
    f.kind = LinkFrame.kindMreq → f.dest = s.linkAddr →
    ∀ (code tag : Byte) (params : List Byte), f.payload = code :: tag :: params → f.payload.length ≤ 60 →
      exec (.mreqReceived t f) s = .next
        (if s.requests.length < 4 then
          { s.advance t with requests := s.requests ++ [⟨f.src, code, tag, params⟩] }
         else if s.replies.length < 4 then
          { s.advance t with
            replies := s.replies ++ [replyTo s ⟨f.src, code, tag, params⟩ .busy []] }
         else { s.advance t with ovUp := bump s.ovUp })

/-- R4, R6: the FBK frame of an in-use drive is handed over at once where no evaluation is under way, waits in
the evaluation place where one is, and is lost and counted where the place is taken. -/
def Obligations.FeedbackFramesAreHandedOver : Prop :=
  ∀ (t : Micros) (f : LinkFrame) (c : Channel) (s : State), Running s →
    f.kind = LinkFrame.kindFbk → f.payload.length = 17 → ServesOnly s c f.src →
    exec (.fbkFrameReceived t f) s = .next
      (if (s.ch c).underway = none then
        (s.advance t).updCh c fun x => { x with underway := some ⟨f, max s.now t⟩ }
       else if (s.ch c).place = none then
        (s.advance t).updCh c fun x => { x with place := some ⟨f, max s.now t⟩ }
       else { s.advance t with ovUp := bump s.ovUp })

/-- R171: the upstream port goes to a feedback frame first, then to the oldest reply, the second reply of a
CHECK among them, then to a frame passing through; with nothing waiting it stands free. -/
def Obligations.UpstreamPortIsGrantedInOrder : Prop :=
  ∀ (t : Micros) (s : State), Running s → (∀ u, s.upTx = some u → u.resets = false) →
    (∀ f rest, s.fbkOut = f :: rest →
      exec (.upstreamPortGrant t) s =
        .next { s.advance t with upTx := some ⟨f, false⟩, fbkOut := rest }) ∧
    (s.fbkOut = [] → ∀ k, s.checkReply = some k → k.older = 0 →
      exec (.upstreamPortGrant t) s =
        .next { s.advance t with upTx := some ⟨k.frame, false⟩, checkReply := none }) ∧
    (s.fbkOut = [] → (∀ k, s.checkReply = some k → k.older ≠ 0) →
      (∀ r rest, s.replies = r :: rest →
        exec (.upstreamPortGrant t) s = .next { s.advance t with
          upTx := some r
          replies := rest
          checkReply := s.checkReply.map fun k => { k with older := k.older - 1 } }) ∧
      (s.replies = [] → ∀ f rest, s.passUp = f :: rest →
        exec (.upstreamPortGrant t) s =
          .next { s.advance t with upTx := some ⟨f, false⟩, passUp := rest }) ∧
      (s.replies = [] → s.passUp = [] →
        exec (.upstreamPortGrant t) s = .next { s.advance t with upTx := none }))

/-- R98, R84, R88, R89, R95: the downstream port goes to the oldest waiting reference first. It leaves with
the speed it was decided with held to the permit of its direction as it stands at the grant, and with 0 in a
standing state or against the backout direction; an originated frame carries the opposite toggle. Frames
passing through follow. -/
def Obligations.DownstreamGrantBoundsTheSpeed : Prop :=
  ∀ (t : Micros) (s : State), Settled s →
    (∀ (r : RefItem) (rest : List RefItem), s.refQueue = r :: rest →
      ∃ (u : State) (w : Speed) (flags : Byte), exec (.downstreamPortGrant t) s = .next u ∧
        u.downTx = some ⟨r.dest, r.src, LinkFrame.kindRef, refPayload w r.control flags⟩ ∧
        u.refQueue = rest ∧
        ((s.ch r.chan).state.moving = false → w = 0) ∧
        ((s.ch r.chan).state = .run ∨ (s.ch r.chan).state = .stopping →
          w = sgn r.speed * min (mag r.speed)
            (if 0 < r.speed then (s.ch r.chan).env.pDown else (s.ch r.chan).env.pUp)) ∧
        ((s.ch r.chan).state = .backout → ∀ b, (s.ch r.chan).env.backout = some b →
          w = if b.dir = some (if 0 < r.speed then .down else .up) then
            sgn r.speed * min (mag r.speed)
              (if 0 < r.speed then (s.ch r.chan).env.pDown else (s.ch r.chan).env.pUp) else 0) ∧
        (r.originated = false → flags = r.flags) ∧
        (r.originated = true → flags.getLsbD 0 = !(s.ch r.chan).rsv.lastTxToggle ∧
          flags &&& 0xFE = r.flags &&& 0xFE) ∧
        (u.ch r.chan).rsv.forwarded =
          (if mag w < mag r.speed then w else (s.ch r.chan).rsv.forwarded) ∧
        Kept ({ s.advance t with refQueue := rest, downTx := u.downTx }.updCh r.chan fun x =>
          { x with rsv := { x.rsv with lastTxToggle := flags.getLsbD 0 } }) u) ∧
    (s.refQueue = [] → ∀ f rest, s.passDown = f :: rest →
      exec (.downstreamPortGrant t) s = .next { s.advance t with downTx := some f, passDown := rest }) ∧
    (s.refQueue = [] → s.passDown = [] →
      exec (.downstreamPortGrant t) s = .next { s.advance t with downTx := none })

/-- R178, R179, R180, R158: the requests that read are answered with what they name, change nothing else, and are
executed in every state; one that names nothing that exists is refused with REFUSED_RANGE. The data of STATUS, of
CONVEYANCE READ, of an entry and of a restriction entry hold each item at its place (a number too great for its
field is free: log 18). The widths of the counts and factors are the model's reading (log 14), and so is the one
byte each for the sign, H, L and next index of a correction (log 15), and for a mark entry's line, a group's select
and the source of an EVENT INJECT (log 47). R175: a request at the head of the queue that is no request of the
table, or whose parameters have a wrong length, is answered BAD_REQUEST and has no effect. R174, R177: each code
spells its request, its parameters one after another, and no bytes but those; any other code spells none. (An ENTRY
WRITE for an entry that does not exist is read whatever its length: log 17.) -/
def Obligations.ReadRequestsOnlyAnswer : Prop :=
  (∀ (t : Micros) (s : State) (q : Request) (rest : List Request),
     (RequestReady s q rest .status →
       exec (.status t) s = .next (s.answered t q rest .ok s.statusData)) ∧
     (∀ n, RequestReady s q rest (.conveyanceRead n) →
       exec (.conveyanceRead t) s = .next
         (match n with
          | 0 => s.answered t q rest .ok (s.convData .cage)
          | 1 => s.answered t q rest .ok (s.convData .cwt)
          | 2 => s.answered t q rest .ok (s.convData .skip)
          | _ => s.answered t q rest .refusedRange [])) ∧
     (∀ i, RequestReady s q rest (.restrictRead i) →
       (∀ e, s.restrictions[i]? = some e →
         exec (.restrictRead t) s = .next (s.answered t q rest .ok (restrictionBytes e))) ∧
       (s.restrictions.length ≤ i →
         exec (.restrictRead t) s = .next (s.answered t q rest .refusedRange []))) ∧
     (∀ (shadow : Bool) (n i : Nat), RequestReady s q rest (.entryRead shadow n i) →
       (∀ bytes, (if shadow then s.shadow else s.active).entryBytes n i = some bytes →
         exec (.entryRead t) s = .next (s.answered t q rest .ok bytes)) ∧
       ((if shadow then s.shadow else s.active).entryBytes n i = none →
         exec (.entryRead t) s = .next (s.answered t q rest .refusedRange [])))) ∧
  (∀ (t : Micros) (s : State) (q : Request) (rest : List Request),
    Running s → s.replies.length < 4 → s.requests = q :: rest → decodeReq q.code q.params = none →
      exec (.badRequest t) s = .next (s.answered t q rest .badRequest [])) ∧
  (∀ s : State, Shaped s → WithinCapacity s → LossBounded s →
    StatusShows s s.statusData ∧ ∀ v, ConveyanceShows s v (s.convData v)) ∧
  (∀ b : Bank, BankShape b → EntriesShown b) ∧
  (∀ e : Restriction, RestrictionShows e (restrictionBytes e)) ∧
  DecodesAs decodeReq

/-- R154: a ROW READ of a row that exists loads the latch with the row and answers it with the count; any other is
refused and leaves the latch alone. R43, R177: a row is sent as its depth and its eight limits. R157: ROW FIND
answers the first row from the start index on that matches, with its plane map; where none matches it says so, with
the map of the row at the start index, and none beyond the last row. It changes nothing else. (Bits of the plane
set and of the field mask that name nothing are ignored, and an absent index is sent as 0: the model's reading, log
16.) -/
def Obligations.RowsAreReadAndFound : Prop :=
  (∀ (t : Micros) (s : State) (q : Request) (rest : List Request) (shadow : Bool) (n i : Nat),
     RequestReady s q rest (.rowRead shadow n i) →
     (∀ v row, convOfCode n = some v →
       ((if shadow then s.shadow else s.active).profile v)[i]? = some row →
       exec (.rowRead t) s = .next { s.answered t q rest .ok
         (rowBytes row ++ fieldU8 ((if shadow then s.shadow else s.active).profile v).length) with
           editLatch := row }) ∧
     (∀ v, convOfCode n = some v → ((if shadow then s.shadow else s.active).profile v).length ≤ i →
       exec (.rowRead t) s = .next (s.answered t q rest .refusedRange [])) ∧
     (convOfCode n = none → exec (.rowRead t) s = .next (s.answered t q rest .refusedRange []))) ∧
  (∀ row : Row, RowShows row (rowBytes row)) ∧
  ∀ (t : Micros) (s : State) (q : Request) (rest : List Request) (f : FindQuery),
    RequestReady s q rest (.rowFind f) →
    (convOfCode f.profile = none → exec (.rowFind t) s = .next (s.answered t q rest .refusedRange [])) ∧
    (∀ row p, p < 4 → ((f.planeMap row).testBit p = true ↔
      (f.mask.testBit 0 = true → row.depth = f.compare.depth) ∧
      (f.mask.testBit 1 = true → (row.limits p).down = (f.compare.limits p).down) ∧
      (f.mask.testBit 2 = true → (row.limits p).up = (f.compare.limits p).up))) ∧
    (∀ row, f.rowMatches row = true ↔
      (∀ p, p < 4 → f.planes.testBit p = true → (f.planeMap row).testBit p = true) ∧
      ((∀ p, p < 4 → f.planes.testBit p = false) → f.mask.testBit 0 = true →
        row.depth = f.compare.depth)) ∧
    ∀ (v : Conveyance) (rows : List Row), convOfCode f.profile = some v →
      rows = (if f.shadow then s.shadow else s.active).profile v →
      (∀ i row, f.start ≤ i → rows[i]? = some row → f.rowMatches row = true →
        (∀ j other, f.start ≤ j → j < i → rows[j]? = some other → f.rowMatches other = false) →
        exec (.rowFind t) s = .next (s.answered t q rest .ok
          (fieldBool true ++ fieldU8 i ++ fieldU8 (f.planeMap row)))) ∧
      ((∀ j other, f.start ≤ j → rows[j]? = some other → f.rowMatches other = false) →
        (∀ row, rows[f.start]? = some row → exec (.rowFind t) s = .next (s.answered t q rest .ok
          (fieldBool false ++ fieldU8 0 ++ fieldU8 (f.planeMap row)))) ∧
        (rows.length ≤ f.start → exec (.rowFind t) s = .next (s.answered t q rest .ok
          (fieldBool false ++ fieldU8 0 ++ fieldU8 0))))

/-- R155, R156: an accepted ROW WRITE replaces the shadow's row at its index, or appends one at the count,
with the row its edit forms from the latch; the shadow becomes DIRTY, a pending commit is cancelled, and the
reply carries the row and the count. -/
def Obligations.RowWriteWritesTheEditedRow : Prop :=
  ∀ (t : Micros) (s : State) (q : Request) (rest : List Request) (e : Edit) (v : Conveyance),
    RequestReady s q rest (.rowWrite e) → s.shadowState ≠ .checking → convOfCode e.profile = some v →
    EditInRange e → e.index ≤ (s.shadow.profile v).length →
    (e.index = (s.shadow.profile v).length → (s.shadow.profile v).length < 96) →
    ∃ (u : State) (row : Row), exec (.rowWrite t) s = .next u ∧
      NewRow e (s.shadow.params (convChannel v)).vMax s.editLatch
        ((s.shadow.profile v).getD e.index Row.zero) row ∧
      u.shadow = s.shadow.setProfile v
        (if e.index < (s.shadow.profile v).length then (s.shadow.profile v).set e.index row
         else s.shadow.profile v ++ [row]) ∧
      WritesShadow s t q rest .ok
        (rowBytes row ++ fieldU8 (max (s.shadow.profile v).length (e.index + 1) : Nat)) u

/-- R155, R156: an accepted ROW INSERT puts the edited row before the row at its index, the rows from there on
moving up by one; ROW DELETE removes the row at its index, those above moving down. -/
def Obligations.RowsAreInsertedAndDeleted : Prop :=
  ∀ (t : Micros) (s : State) (q : Request) (rest : List Request) (v : Conveyance),
    s.shadowState ≠ .checking →
    (∀ e : Edit, RequestReady s q rest (.rowInsert e) → convOfCode e.profile = some v →
      EditInRange e → e.index ≤ (s.shadow.profile v).length → (s.shadow.profile v).length < 96 →
      ∃ (u : State) (row : Row), exec (.rowInsert t) s = .next u ∧
        NewRow e (s.shadow.params (convChannel v)).vMax s.editLatch Row.zero row ∧
        u.shadow = s.shadow.setProfile v
          ((s.shadow.profile v).take e.index ++ row :: (s.shadow.profile v).drop e.index) ∧
        WritesShadow s t q rest .ok
          (rowBytes row ++ fieldU8 ((s.shadow.profile v).length + 1 : Nat)) u) ∧
    (∀ n i : Nat, RequestReady s q rest (.rowDelete n i) → convOfCode n = some v →
      i < (s.shadow.profile v).length →
      ∃ u : State, exec (.rowDelete t) s = .next u ∧
        u.shadow = s.shadow.setProfile v ((s.shadow.profile v).eraseIdx i) ∧
        WritesShadow s t q rest .ok (fieldU8 ((s.shadow.profile v).length - 1 : Nat)) u)

/-- R155, R156: a ROW WRITE, ROW INSERT or ROW DELETE of a profile above 2, an edit with a part or a used source out
of its range (a plane set or field mask with a bit that names nothing is out of range: log 38), and one out of its
index range or past 96 rows, is refused and the shadow is not changed. R153, R162: while the shadow is CHECKING, the
requests that write it, copy it, check it or commit it are answered BUSY and change nothing. -/
def Obligations.RefusedEditsChangeNothing : Prop :=
  (∀ (t : Micros) (s : State) (q : Request) (rest : List Request), s.shadowState ≠ .checking →
     (∀ e : Edit, convOfCode e.profile = none ∨ ¬ EditInRange e →
       (RequestReady s q rest (.rowWrite e) →
         exec (.rowWrite t) s = .next (s.answered t q rest .refusedRange [])) ∧
       (RequestReady s q rest (.rowInsert e) →
         exec (.rowInsert t) s = .next (s.answered t q rest .refusedRange []))) ∧
     (∀ n i : Nat, convOfCode n = none → RequestReady s q rest (.rowDelete n i) →
       exec (.rowDelete t) s = .next (s.answered t q rest .refusedRange []))) ∧
  (∀ (t : Micros) (s : State) (q : Request) (rest : List Request) (v : Conveyance),
     s.shadowState ≠ .checking →
     (∀ e : Edit, convOfCode e.profile = some v → EditInRange e →
       ((s.shadow.profile v).length < e.index →
         (RequestReady s q rest (.rowWrite e) →
           exec (.rowWrite t) s = .next (s.answered t q rest .refusedRange [])) ∧
         (RequestReady s q rest (.rowInsert e) →
           exec (.rowInsert t) s = .next (s.answered t q rest .refusedRange []))) ∧
       (e.index = (s.shadow.profile v).length → 96 ≤ e.index → RequestReady s q rest (.rowWrite e) →
         exec (.rowWrite t) s = .next (s.answered t q rest .refusedFull [])) ∧
       (e.index ≤ (s.shadow.profile v).length → 96 ≤ (s.shadow.profile v).length →
         RequestReady s q rest (.rowInsert e) →
         exec (.rowInsert t) s = .next (s.answered t q rest .refusedFull []))) ∧
     (∀ n i : Nat, convOfCode n = some v → (s.shadow.profile v).length ≤ i →
       RequestReady s q rest (.rowDelete n i) →
       exec (.rowDelete t) s = .next (s.answered t q rest .refusedRange []))) ∧
  ∀ (t : Micros) (s : State) (q : Request) (rest : List Request), s.shadowState = .checking →
    (∀ e, RequestReady s q rest (.rowWrite e) →
      exec (.rowWrite t) s = .next (s.answered t q rest .busy [])) ∧
    (∀ e, RequestReady s q rest (.rowInsert e) →
      exec (.rowInsert t) s = .next (s.answered t q rest .busy [])) ∧
    (∀ n i, RequestReady s q rest (.rowDelete n i) →
      exec (.rowDelete t) s = .next (s.answered t q rest .busy [])) ∧
    (∀ n i bs, RequestReady s q rest (.entryWrite n i bs) →
      exec (.entryWrite t) s = .next (s.answered t q rest .busy [])) ∧
    (RequestReady s q rest .bankCopy →
      exec (.bankCopy t) s = .next (s.answered t q rest .busy [])) ∧
    (RequestReady s q rest .bankCheck →
      exec (.bankCheck t) s = .next (s.answered t q rest .busy [])) ∧
    (RequestReady s q rest .bankCommit →
      exec (.bankCommit t) s = .next (s.answered t q rest .busy []))

/-- R158, R151: an ENTRY WRITE of a parameter the channel has, with a value in its range, writes that
parameter of the shadow and no other; out of range, or for a parameter the channel lacks, it is refused. -/
def Obligations.EntryWriteWritesOneParameter : Prop :=
  ∀ (t : Micros) (s : State) (q : Request) (rest : List Request) (n i : Nat) (bs : List Byte) (c : Channel),
    RequestReady s q rest (.entryWrite n i bs) → s.shadowState ≠ .checking →
    (c = .a ∧ n = 8 ∨ c = .b ∧ n = 9) →
    (paramExists c i = true → (paramRange i).1 ≤ paramValue i bs → paramValue i bs ≤ (paramRange i).2 →
      ∃ u : State, exec (.entryWrite t) s = .next u ∧
        (u.shadow.params c).get i = paramValue i bs ∧
        (∀ j, j ≠ i → (u.shadow.params c).get j = (s.shadow.params c).get j) ∧
        u.shadow = s.shadow.setParams c (u.shadow.params c) ∧
        WritesShadow s t q rest .ok (paramBytes i (paramValue i bs)) u) ∧
    (paramExists c i = false ∨ paramValue i bs < (paramRange i).1 ∨ (paramRange i).2 < paramValue i bs →
      exec (.entryWrite t) s = .next (s.answered t q rest .refusedRange []))

/-- R123, R122, R158: an ENTRY WRITE of a route stores it with its class raised to the source's floor and the scope
of TRIPLINE_STUCK made BOTH, and is answered OK_ADJUSTED where that changed it. R26, R69, R71, R158: one of a mark,
a derate group or a low alarm group stores the entry it carries at its index of its table, and nothing else of the
shadow; one with a field out of its range, or for an entry that does not exist, is refused. The bytes of each kind
of entry spell the entry whose fields they hold, each in its range (a byte of no meaning is out of range, and a mark
with valid NO is read as all 0: the model's reading, log 17; the line of a mark and the select of a group are one
byte each: its choice, log 47). -/
def Obligations.EntryWriteStoresEntries : Prop :=
  (∀ (t : Micros) (s : State) (q : Request) (rest : List Request) (n i : Nat) (bs : List Byte) (c : Channel)
     (r : Route),
     RequestReady s q rest (.entryWrite n i bs) → s.shadowState ≠ .checking →
     (c = .a ∧ n = 4 ∨ c = .b ∧ n = 5) → i < 24 → (s.shadow.routes c).length = 24 →
     decodeRoute bs = some r →
     ∃ (u : State) (stored : Route), exec (.entryWrite t) s = .next u ∧
       stored.cls.rank = max r.cls.rank (floorClass i).rank ∧ stored.latch = r.latch ∧
       stored.scope = (if i = 9 then .both else r.scope) ∧ stored.notify = r.notify ∧
       u.shadow.routes c = (s.shadow.routes c).set i stored ∧
       u.shadow = s.shadow.setRoutes c (u.shadow.routes c) ∧
       WritesShadow s t q rest (if stored = r then .ok else .okAdjusted) (routeBytes stored) u) ∧
  (∀ (t : Micros) (s : State) (q : Request) (rest : List Request) (n i : Nat) (bs : List Byte),
    RequestReady s q rest (.entryWrite n i bs) → s.shadowState ≠ .checking → BankShape s.shadow →
    (∀ e, n = 3 → i < 32 → decodeMark bs = some e →
      ∃ u : State, exec (.entryWrite t) s = .next u ∧
        u.shadow = { s.shadow with marks := s.shadow.marks.set i e } ∧
        WritesShadow s t q rest .ok (markBytes e) u) ∧
    (∀ g c, (c = .a ∧ n = 6 ∨ c = .b ∧ n = 7) → i < 4 → decodeDerate bs = some g →
      ∃ u : State, exec (.entryWrite t) s = .next u ∧
        u.shadow = s.shadow.setDerate c
          { s.shadow.derate c with groups := (s.shadow.derate c).groups.set i g } ∧
        WritesShadow s t q rest .ok (derateBytes g) u) ∧
    (∀ g c, (c = .a ∧ n = 6 ∨ c = .b ∧ n = 7) → (i = 4 ∨ i = 5) → decodeAlarm bs = some g →
      ∃ u : State, exec (.entryWrite t) s = .next u ∧
        u.shadow = s.shadow.setDerate c
          (if i = 4 then { s.shadow.derate c with alarm0 := g }
           else { s.shadow.derate c with alarm1 := g }) ∧
        WritesShadow s t q rest .ok (alarmBytes g) u) ∧
    ((n = 3 ∧ decodeMark bs = none ∨ (n = 4 ∨ n = 5) ∧ decodeRoute bs = none ∨
        (n = 6 ∨ n = 7) ∧ i < 4 ∧ decodeDerate bs = none ∨
        (n = 6 ∨ n = 7) ∧ 4 ≤ i ∧ decodeAlarm bs = none ∨ n < 3 ∨ 9 < n ∨
        n = 3 ∧ 32 ≤ i ∨ (n = 4 ∨ n = 5) ∧ 24 ≤ i ∨ (n = 6 ∨ n = 7) ∧ 6 ≤ i) →
      exec (.entryWrite t) s = .next (s.answered t q rest .refusedRange []))) ∧
  EntriesRead

/-- R159: BANK COPY makes the shadow a copy of the active bank, VALID where that is LOADED and EMPTY where it
is EMPTY, and cancels a pending commit; in CHECKING it is answered BUSY. R164: COMMIT CANCEL cancels one, and is
refused where none is pending. -/
def Obligations.CopyAndCancel : Prop :=
  ∀ (t : Micros) (s : State) (q : Request) (rest : List Request),
    (RequestReady s q rest .bankCopy → s.shadowState = .checking →
      exec (.bankCopy t) s = .next (s.answered t q rest .busy [])) ∧
    (RequestReady s q rest .bankCopy → s.shadowState ≠ .checking →
      ∃ u : State, exec (.bankCopy t) s = .next u ∧ CancelsCommit s u 1 ∧
        u = { s.answered t q rest .ok (fieldU8 (if s.activeLoaded then 3 else 0 : Nat)) with
          shadow := s.active
          shadowState := if s.activeLoaded then .valid else .empty
          pendingCommit := u.pendingCommit
          seq := u.seq
          notices := u.notices
          noticesLost := u.noticesLost }) ∧
    (RequestReady s q rest .commitCancel →
      (s.pendingCommit = true →
        ∃ u : State, exec (.commitCancel t) s = .next u ∧ CancelsCommit s u 3 ∧
          u = { s.answered t q rest .ok [] with
            pendingCommit := u.pendingCommit
            seq := u.seq
            notices := u.notices
            noticesLost := u.noticesLost }) ∧
      (s.pendingCommit = false →
        exec (.commitCancel t) s = .next (s.answered t q rest .refusedState [])))

/-- R160: an accepted BANK CHECK puts the shadow in CHECKING and is answered PENDING. When the CHECK completes, the
shadow is VALID or INVALID as it passes or not, a second reply with the outcome waits in its own place, where it
takes the place of an older one that still waits (log 22; its data: log 44), and CHECK_DONE, a NOTE, joins the
notice queue, or is dropped by a full one (R134). R161: the CHECK reports the first offence of the bank in the order
of its examinations, and finds none exactly where there is none. R152: its profiles then have 2 to 96 rows in
strictly ascending depth, span the end limits, and hold no limit above v_max. -/
def Obligations.CheckBeginsAndCompletes : Prop :=
  (∀ (addr : Byte) (b : Bank), BankShape b → CheckFinds addr b) ∧
  ∀ (t : Micros) (s : State),
    (∀ (q : Request) (rest : List Request), RequestReady s q rest .bankCheck → s.shadowState ≠ .checking →
      ∃ u : State, exec (.bankCheck t) s = .next u ∧ CancelsCommit s u 2 ∧
        u = { s.answered t q rest .pending [] with
          shadowState := .checking
          checkJob := some (q.src, q.tag)
          pendingCommit := u.pendingCommit
          seq := u.seq
          notices := u.notices
          noticesLost := u.noticesLost }) ∧
    (∀ src tag, Running s → s.checkJob = some (src, tag) →
      exec (.checkCompletes t) s = .next { s.advance t with
        shadowState := if checkBank s.linkAddr s.shadow = none then .valid else .invalid
        checkJob := none
        checkReply := some
          ⟨replyFrame s.linkAddr src 13 tag .ok (outcomeBytes (checkBank s.linkAddr s.shadow)),
           s.replies.length⟩
        seq := (s.seq + 1) % 256
        notices := s.notices ++ if s.notices.length < 16 then
          [⟨s.seq, partNotice .checkDone (some (if checkBank s.linkAddr s.shadow = none then 0 else 1))
            (checkBank s.linkAddr s.shadow)⟩] else []
        noticesLost := s.noticesLost || decide (16 ≤ s.notices.length) }) ∧
    (Running s → s.checkJob = none → exec (.checkCompletes t) s = .next (s.advance t))

/-- R163, R165, R118: a BANK COMMIT of a VALID shadow, with both channels standing at rest, no commit pending and no
barrier over a home depth of the shadow, makes the shadow the active bank at once and makes every block begin afresh
on it: records, permits, ceilings, conditions, gap timers and reference contexts (R20, R22, R42, R59, R61, R68, R71,
R79, R90, R117), and the windows of the readbacks (R149). (What the rules leave of the records, of the notice's
place and of the gap timers: logs 20, 32, 35.) A channel in use is TRIPPED where it was, or where a TRIP-class flag
blocks it under the new routes, and HELD otherwise; one not in use is IDLE. R131: each flag of a channel in use is
settled by its new route. COMMIT_DONE is offered to the notice queue. -/
def Obligations.CommitMakesTheShadowActive : Prop :=
  ∀ (t : Micros) (s : State) (q : Request) (rest : List Request),
    RequestReady s q rest .bankCommit → Settled s → s.shadowState = .valid →
    s.barrierConflict s.shadow = false → (∀ c, s.standsAtRest c = true) →
    ∃ u : State, exec (.bankCommit t) s = .next u ∧
      u.active = s.shadow ∧ u.activeLoaded = true ∧ u.pendingCommit = false ∧
      u.shadow = s.shadow ∧ u.shadowState = s.shadowState ∧ u.editLatch = s.editLatch ∧
      u.restrictions = s.restrictions ∧ u.requests = rest ∧
      u.replies = s.replies ++ [replyTo s q .ok []] ∧
      u.arms = List.replicate 32 .idle ∧ u.markFilters = s.markFilters ∧
      u.masterClosed = s.masterClosed ∧ u.linkAddr = s.linkAddr ∧ u.passDown = s.passDown ∧
      u.errUp = s.errUp ∧ u.errDown = s.errDown ∧
      (∀ c, (u.ch c).permits = (s.ch c).permits) ∧
      (∀ c, s.shadow.inUse c = true →
        ChannelCommitted (s.ch c) (u.ch c) (s.shadow.params c) (max s.now t)) ∧
      (∀ c, s.shadow.inUse c = false → ChannelUnused (s.ch c) (u.ch c)) ∧
      ((∀ c, (s.ch c).flags.length = 24) → ∀ c, s.shadow.inUse c = true → (u.ch c).state =
        if (s.ch c).state = .tripped ∨ u.hasTripBlocking c = true then .tripped else .held) ∧
      ((∀ c, (s.ch c).state = .idle → (s.ch c).line.stuck = false) →
        (∀ c, s.shadow.inUse c = true → (s.ch c).flags.length = 24 → FlagsCommitted s u c) ∧
        (∀ c, LineCommitted (s.ch c) (u.ch c) (max s.now t)
          (if s.shadow.inUse c then ((s.shadow.params c).tRb * 1000).toNat else 200000)) ∧
        ((∀ c, (s.ch c).underway = none) → s.notices.length < 16 →
          u.notices = s.notices ++ [⟨s.seq, partNotice .commitDone none none⟩]))

/-- R163: a BANK COMMIT finds the shadow CHECKING and is answered BUSY, or not VALID, or with a barrier over a
home depth, and is refused; with a commit pending already, or a channel that does not stand at rest, it is
answered PENDING; with both channels at rest it is applied at once and answered OK. -/
def Obligations.CommitWaitsOrIsRefused : Prop :=
  ∀ (t : Micros) (s : State) (q : Request) (rest : List Request),
    RequestReady s q rest .bankCommit →
    (s.shadowState = .checking → exec (.bankCommit t) s = .next (s.answered t q rest .busy [])) ∧
    (s.shadowState ≠ .checking → s.shadowState ≠ .valid →
      exec (.bankCommit t) s = .next (s.answered t q rest .refusedBank [])) ∧
    (s.shadowState = .valid → s.barrierConflict s.shadow = true →
      exec (.bankCommit t) s = .next (s.answered t q rest .refusedConflict [])) ∧
    (s.shadowState = .valid → s.barrierConflict s.shadow = false → s.pendingCommit = true →
      exec (.bankCommit t) s = .next (s.answered t q rest .pending [])) ∧
    (s.shadowState = .valid → s.barrierConflict s.shadow = false → s.pendingCommit = false →
      (∃ c, s.standsAtRest c = false) →
      exec (.bankCommit t) s = .next { s.answered t q rest .pending [] with pendingCommit := true }) ∧
    (s.shadowState = .valid → s.barrierConflict s.shadow = false → s.pendingCommit = false →
      (∀ c, s.standsAtRest c = true) →
      ∃ u : State, exec (.bankCommit t) s = .next u ∧ u.active = s.shadow ∧ u.activeLoaded = true ∧
        u.pendingCommit = false ∧ u.replies = s.replies ++ [replyTo s q .ok []])

/-- R152, R163 to R165: the active bank is replaced whole, by the shadow bank where a commit is applied, which is
at an accepted BANK COMMIT with both channels at rest or while a commit is pending, and by the initial content at a
reset; nothing else ever changes it. R154, R167: only a ROW READ executed at the head of the queue and a reset
change the Edit Unit's latch. R164: a pending commit ends by being applied, by a request that cancels it, or by a
reset; it begins with a BANK COMMIT of a VALID shadow that finds a channel not at rest. Every command judges it at
its moments, and leaves none overdue. -/
def Obligations.ActiveBankAndLatchChangeRarely : Prop :=
  (∀ (c : Instr) (s u : State), BankAutomaton s → exec c s = .next u →
     u.active = s.active ∧ u.activeLoaded = s.activeLoaded ∨
       CommitCause c s ∧ s.shadowState = .valid ∧ CommitApplied s u ∨
       ResetCause c s ∧ u.active = Bank.initial ∧ u.activeLoaded = false) ∧
  (∀ (c : Instr) (s u : State), exec c s = .next u →
     u.editLatch = s.editLatch ∨ ResetCause c s ∧ u.editLatch = Row.zero ∨
       ∃ (t : Micros) (shadow : Bool) (n i : Nat) (v : Conveyance), c = .rowRead t ∧
         HeadIs s (.rowRead shadow n i) ∧ convOfCode n = some v ∧
         ((if shadow then s.shadow else s.active).profile v)[i]? = some u.editLatch) ∧
  (∀ (c : Instr) (s u : State), exec c s = .next u →
     (s.pendingCommit = true → u.pendingCommit = false →
       CommitApplied s u ∨ CancelCause c s ∨ ResetCause c s) ∧
     (s.pendingCommit = false → u.pendingCommit = true →
       (∃ t, c = .bankCommit t) ∧ HeadIs s .bankCommit ∧ s.shadowState = .valid ∧
         ∃ d, s.standsAtRest d = false)) ∧
  ∀ (c : Instr) (s u : State), s.raised = [] → CommitNotOverdue s → exec c s = .next u → CommitNotOverdue u

/-- R65: a RESTRICT WRITE is judged by its checks in order, and where one fails the table is not changed; the
entry that is held is the reply's data. (A mask of 8 or more fails the field check: log 38; the data of a refusal:
log 16; the place of the check for an equal entry: log 24.) R65, R66: one that passes its checks replaces the entry
at its index. A relaxing one changes nothing else. R62, R68: a tightening one recomputes the permits of the
channels concerned, of the conveyances and then of the channels, none of which rises by it (for the channel permits:
log 23), and judges their barriers; no other permit changes. -/
def Obligations.RestrictWriteIsJudgedInOrder : Prop :=
  ∀ (t : Micros) (s : State) (q : Request) (rest : List Request) (i : Nat) (r : RestrictFields),
    RequestReady s q rest (.restrictWrite i r) →
    (s.restrictions.length ≤ i →
      exec (.restrictWrite t) s = .next (s.answered t q rest .refusedRange [])) ∧
    ∀ old, s.restrictions[i]? = some old →
      (r.valid = true → ¬ (10 ≤ r.k ∧ r.k ≤ 21 ∧ 0 ≤ r.base ∧ r.base ≤ 4200000 ∧ r.base % 2 ^ r.k = 0 ∧
          0 ≤ r.cap ∧ r.cap ≤ 20000 ∧ 0 < r.mask ∧ r.mask < 8) →
        exec (.restrictWrite t) s = .next (s.answered t q rest .refusedRange (restrictionBytes old))) ∧
      ((r.valid = true → r.fits = true) → r.entry = old →
        exec (.restrictWrite t) s = .next (s.answered t q rest .ok (restrictionBytes old))) ∧
      ((r.valid = true → r.fits = true) → r.entry ≠ old →
        (r.valid = true → s.duplicates i r.entry = true →
          exec (.restrictWrite t) s =
            .next (s.answered t q rest .refusedDuplicate (restrictionBytes old))) ∧
        (r.valid = true → s.duplicates i r.entry = false → s.spanFits r.entry = false →
          exec (.restrictWrite t) s =
            .next (s.answered t q rest .refusedRange (restrictionBytes old))) ∧
        (r.valid = true → s.duplicates i r.entry = false → s.spanFits r.entry = true →
          s.coversHome r.entry = true →
          exec (.restrictWrite t) s =
            .next (s.answered t q rest .refusedConflict (restrictionBytes old))) ∧
        ((r.valid = true → s.duplicates i r.entry = false ∧ s.spanFits r.entry = true ∧
            s.coversHome r.entry = false) →
          tightening old r.entry = false → s.concernedAtRest old r.entry = false →
          exec (.restrictWrite t) s =
            .next (s.answered t q rest .refusedMoving (restrictionBytes old))) ∧
        (Settled s → s.judgeRestrict i old r.entry = .ok →
          (tightening old r.entry = false →
            exec (.restrictWrite t) s = .next { s.answered t q rest .ok (restrictionBytes r.entry) with
              restrictions := s.restrictions.set i r.entry }) ∧
          (tightening old r.entry = true →
            ∃ u : State, exec (.restrictWrite t) s = .next u ∧
              Kept (({ s.answered t q rest .ok (restrictionBytes r.entry) with
                restrictions := s.restrictions.set i r.entry }.updCh .a fun x =>
                  { x with prim := u.chA.prim, cwt := u.chA.cwt }).updCh .b fun x =>
                  { x with prim := u.chB.prim }) u ∧
              (∀ v, RestrictedConv s u r.entry v) ∧ ∀ d, RestrictedChannel s u r.entry d)))

/-- R46, R47: an accepted DUTY sets the channel's plane, makes its permits and its conveyances' profile limits
0, and takes READY to HELD; one that names no channel or no plane, or finds the channel moving, is refused. -/
def Obligations.DutySetsThePlane : Prop :=
  ∀ (t : Micros) (s : State) (q : Request) (rest : List Request) (n plane : Nat),
    RequestReady s q rest (.duty n plane) →
    (channelOfCode n = none → exec (.duty t) s = .next (s.answered t q rest .refusedRange [])) ∧
    ∀ c, channelOfCode n = some c →
      (3 < plane → exec (.duty t) s =
        .next (s.answered t q rest .refusedRange (fieldU8 (s.ch c).plane))) ∧
      (plane ≤ 3 → (s.ch c).state.moving = true → exec (.duty t) s =
        .next (s.answered t q rest .refusedMoving (fieldU8 (s.ch c).plane))) ∧
      (plane ≤ 3 → (s.ch c).state.moving = false → Settled s →
        ∃ u : State, exec (.duty t) s = .next u ∧
          (u.ch c).state = (if (s.ch c).state = .ready then .held else (s.ch c).state) ∧
          (u.ch c).env.pDown = 0 ∧ (u.ch c).env.pUp = 0 ∧ (u.ch c).flags = (s.ch c).flags ∧
          (u.ch c).env.ceilDown = (s.ch c).env.ceilDown ∧ (u.ch c).env.ceilUp = (s.ch c).env.ceilUp ∧
          Kept (((s.answered t q rest .ok (fieldU8 plane)).updCh c fun x =>
            { x with
              plane := plane
              prim := { x.prim with profDown := 0, profUp := 0 }
              cwt := if c = .a then { x.cwt with profDown := 0, profUp := 0 } else x.cwt })) u)

/-- R130, R111, R145: a CLEAR clears the LATCHED flags whose conditions are gone, the loss count and the
notices-lost status; takes TRIPPED to HELD where no TRIP-class flag blocks, the channel is at rest and the readback
is open; and closes the master trip line where no contact is known to be stuck. (The width of the count in its
reply: log 14.) -/
def Obligations.ClearClearsWhatIsGone : Prop :=
  ∀ (t : Micros) (s : State) (q : Request) (rest : List Request) (n : Nat),
    RequestReady s q rest (.clear n) →
    (channelOfCode n = none → exec (.clear t) s = .next (s.answered t q rest .refusedRange [])) ∧
    ∀ c, channelOfCode n = some c → Settled s →
      ∃ u : State, exec (.clear t) s = .next u ∧
        (∀ src : Source, (u.ch c).flag src =
          if (s.ch c).flag src = .latched ∧ (s.ch c).live src = false then .clear
          else (s.ch c).flag src) ∧
        (u.ch (otherChannel c)).flags = (s.ch (otherChannel c)).flags ∧
        (u.ch c).rsv.lossCount = 0 ∧ u.noticesLost = false ∧ u.notices = s.notices ∧
        (u.ch c).state =
          (if (s.ch c).state = .tripped ∧ u.hasTripBlocking c = false ∧ s.atRest c = true ∧
              (s.ch c).line.readback.filtered = false then .held else (s.ch c).state) ∧
        u.masterClosed = (s.masterClosed || !u.lineSuspect) ∧
        Kept ({ s.answered t q rest .ok [] with
          replies := u.replies
          masterClosed := u.masterClosed
          holdOn := u.holdOn
          holdHigh := u.holdHigh
          holdSince := u.holdSince }.updCh c fun x => { x with rsv := { x.rsv with lossCount := 0 } }) u ∧
        u.replies = s.replies ++ [replyTo s q .ok
          (fieldU8 (u.ch c).state.code ++ fieldU32 ((u.ch c).flags.countP FlagState.isSet : Nat))]

/-- R112, R113, R56, R57: an accepted BACKOUT takes a TRIPPED channel to BACKOUT, clears both overwind flags
and every flag whose condition is gone, records the thresholds and the direction, and holds the permits to
v_creep; a request that fails a check is refused and changes nothing. -/
def Obligations.BackoutIsEnteredFromAnOverwind : Prop :=
  ∀ (t : Micros) (s : State) (q : Request) (rest : List Request) (n : Nat),
    RequestReady s q rest (.backout n) →
    (channelOfCode n = none → exec (.backout t) s = .next (s.answered t q rest .refusedRange [])) ∧
    ∀ c, channelOfCode n = some c →
      (¬ ((s.ch c).state = .tripped ∧ ((s.ch c).env.overDeep = true ∨ (s.ch c).env.overHigh = true) ∧
          (∀ src : Source, src ≠ .overwindDeep → src ≠ .overwindHigh → (s.ch c).live src = false) ∧
          s.blockedByOther c = false ∧ s.atRest c = true ∧ s.lostPermits c = []) →
        exec (.backout t) s =
          .next (s.answered t q rest .refusedState (fieldU8 (s.ch c).state.code))) ∧
      ((s.ch c).state = .tripped → ((s.ch c).env.overDeep = true ∨ (s.ch c).env.overHigh = true) →
        (∀ src : Source, src ≠ .overwindDeep → src ≠ .overwindHigh → (s.ch c).live src = false) →
        s.blockedByOther c = false → s.atRest c = true → s.lostPermits c = [] → Settled s →
        1 ≤ (s.params c).clearance →
        alarmHolds (s.active.derate c).alarm0 (s.ch c).ctr = false →
        alarmHolds (s.active.derate c).alarm1 (s.ch c).ctr = false →
        ∃ u : State, exec (.backout t) s = .next u ∧ (u.ch c).state = .backout ∧
          (∀ src : Source, (u.ch c).flag src = .clear) ∧
          (u.ch c).env.backout = some ⟨s.backoutThresholds (primaryOf c), s.backoutThresholds .cwt,
            s.backoutDir c⟩ ∧
          (u.ch c).env.overDeep = false ∧ (u.ch c).env.overHigh = false ∧
          (u.ch c).env.pDown = min (s.ch c).env.pDown (s.params c).vCreep ∧
          (u.ch c).env.pUp = min (s.ch c).env.pUp (s.params c).vCreep ∧
          (u.ch (otherChannel c)).state = (s.ch (otherChannel c)).state ∧
          Kept (s.answered t q rest .ok (fieldU8 ChanState.backout.code)) u)

/-- R129, R125: an accepted EVENT INJECT latches the flag of the source it names, and hands its class's response:
TRIP leaves the channel TRIPPED, STOP leaves it in no state that a blocking flag forbids, NOTE leaves its state
alone. R127: with scope BOTH the other channel is handed the same response; in IDLE it stays there, and with scope
OWN it keeps its state (where no channel in BACKOUT stands beyond an end limit, so that no overwind is raised). R97:
a TRIP of scope OWN sends a zero frame there, where the forwarded reference was not 0 and the queue has a place. The
reply carries the number the notice took, where one was offered, and the state after the injection (its widths: log
14). A request that names no such source, or a channel in IDLE, is refused. R133, R134: a notice takes the counter's
value and joins the queue; a full one makes room for it by giving up its oldest NOTE, or for a TRIP its oldest STOP,
or drops it, and either way the notices-lost status is set. -/
def Obligations.InjectedEventsAreRouted : Prop :=
  (∀ (t : Micros) (s : State) (q : Request) (rest : List Request) (n m : Nat),
    RequestReady s q rest (.eventInject n m) →
    (channelOfCode n = none → exec (.eventInject t) s = .next (s.answered t q rest .refusedRange [])) ∧
    ∀ c, channelOfCode n = some c →
      (24 ≤ m ∨ c = .b ∧ (m = 5 ∨ m = 10) →
        exec (.eventInject t) s = .next (s.answered t q rest .refusedRange [])) ∧
      (m < 24 → ¬ (c = .b ∧ (m = 5 ∨ m = 10)) → (s.ch c).state = .idle →
        exec (.eventInject t) s = .next (s.answered t q rest .refusedState [])) ∧
      ∀ src, Source.ofNum m = some src → ¬ (c = .b ∧ (m = 5 ∨ m = 10)) →
        (s.ch c).state ≠ .idle → (s.ch c).flags.length = 24 → Settled s →
        ∃ u : State, exec (.eventInject t) s = .next u ∧
          (u.ch c).flag src = .latched ∧
          ((s.active.route c src).cls = .trip → (u.ch c).state = .tripped) ∧
          ((s.active.route c src).cls = .stop → (u.ch c).state.mayBlock = true) ∧
          ((s.active.route c src).cls = .note → ∀ d, (u.ch d).state = (s.ch d).state) ∧
          ((s.active.route c src).scope = .both → (s.ch (otherChannel c)).state ≠ .idle →
            ((s.active.route c src).cls = .trip → (u.ch (otherChannel c)).state = .tripped) ∧
            ((s.active.route c src).cls = .stop → (u.ch (otherChannel c)).state.mayBlock = true)) ∧
          ((s.ch (otherChannel c)).state = .idle → (u.ch (otherChannel c)).state = .idle) ∧
          ((s.active.route c src).scope = .own → BackoutsWithinLimits s →
            (u.ch (otherChannel c)).state = (s.ch (otherChannel c)).state ∧
            ((s.active.route c src).cls = .trip → (s.ch c).state ≠ .tripped →
              (u.ch c).rsv.forwarded = 0 ∧ ZeroFrameSent s u c)) ∧
          ((s.active.route c src).notify = true → s.notices.length ≤ 8 →
            ∃ notice ∈ u.notices, notice.seq = s.seq ∧ notice.body.injected = true ∧
              notice.body.origin = .channel c src) ∧
          ((s.active.route c src).notify = true → (s.active.route c src).cls = .note →
            ∀ offered : State, offered = s.offer
              { origin := .channel c src, cls := .note, injected := true, conv := some (primaryOf c),
                depth := if (s.ch c).ctr.feedbackValid then some (s.ch c).prim.est else none,
                speed := if (s.ch c).ctr.feedbackValid then some (s.ch c).ctr.vMeas else none,
                value := none, offence := none } →
              u.notices = offered.notices ∧ u.seq = offered.seq ∧ u.noticesLost = offered.noticesLost) ∧
          Kept (s.answered t q rest .ok
            ((if (s.active.route c src).notify then fieldBool true ++ fieldU32 (s.seq : Nat)
              else fieldBool false ++ fieldU32 (0 : Nat)) ++ fieldU8 ((u.ch c).state.code : Nat))) u) ∧
  ∀ (s : State) (b : NoticeBody),
    (s.notices.length < 16 →
      s.offer b = { s with seq := (s.seq + 1) % 256, notices := s.notices ++ [⟨s.seq, b⟩] }) ∧
    (16 ≤ s.notices.length →
      (∀ before m after, s.notices = before ++ m :: after → MakesRoom b.cls before m after →
        s.offer b = { s with
          seq := (s.seq + 1) % 256, notices := before ++ after ++ [⟨s.seq, b⟩], noticesLost := true }) ∧
      (NoRoom b.cls s.notices →
        s.offer b = { s with seq := (s.seq + 1) % 256, noticesLost := true }))

/-- R181, R182: SOFT RESET is accepted where both channels stand at rest, and refused with REFUSED_MOVING otherwise;
when its reply has left on the upstream port, the reset begins there and then. (That the blocks and filters stand at
their reset values from that moment on is the model's reading, log 30, and that the last arrival time is 0 its
choice, log 31.) -/
def Obligations.SoftResetBeginsWhenItsReplyHasLeft : Prop :=
  ∀ (t : Micros) (s : State),
    (∀ (q : Request) (rest : List Request), RequestReady s q rest .softReset →
      ((∀ c, s.standsAtRest c = true) →
        exec (.softReset t) s = .next { s.advance t with
          requests := rest
          replies := s.replies ++ [⟨replyFrame s.linkAddr q.src q.code q.tag .ok [], true⟩] }) ∧
      ((∃ c, s.standsAtRest c = false) →
        exec (.softReset t) s = .next (s.answered t q rest .refusedMoving []))) ∧
    (∀ f, Running s → s.upTx = some ⟨f, true⟩ →
      ∃ u, exec (.upstreamPortGrant t) s = .next u ∧ u.softReset = some (max s.now t) ∧
        ResetContents u ∧ OutputsHeld u ∧ PinsKept s u)

/-- R5: the sheave counter goes up by 1 at a transition along the sequence 00, 10, 11, 01, down by 1 at one
against it, wraps at 32 bits, and stays where both phases change or neither does; no other state than the
phases changes. It is 0 at each reset; in reset the phases are followed and nothing is counted (the model's
reading: log 30). -/
def Obligations.WheelTransitionsAreCounted : Prop :=
  ∀ (t : Micros) (p1 p2 : Bool) (s : State),
    (∃ u, exec (.powerOn t) s = .next u ∧ u.chA.ctr.sheaveCounter = 0) ∧
    (∃ u, exec (.resetInputAsserted t) s = .next u ∧ u.chA.ctr.sheaveCounter = 0) ∧
    (BeaconsJudged s → exec (.measuringWheelTransition t p1 p2) s =
      .next ({ s.advance t with phase1 := p1, phase2 := p2 }.updCh .a fun x =>
        { x with ctr := { x.ctr with sheaveCounter := x.ctr.sheaveCounter +
            (if s.inReset then 0
             else if ((s.phase1, s.phase2), (p1, p2)) ∈ forwardTurns then 1
             else if ((p1, p2), (s.phase1, s.phase2)) ∈ forwardTurns then -1 else 0) } }))

/-- R24, R116, R140, R182: a raw level change of a mark line, a permit line or a readback moves that input's
filter and nothing else, in every channel state; in reset the level is followed and no candidate is held (log
30). A filter accepts a change only once its candidate has aged 200 µs; an accepted falling mark, and an
accepted change of a permit line that the channel does not heed, change the filtered level and nothing else. -/
def Obligations.FiltersFollowTheirInputs : Prop :=
  (∀ (t : Micros) (level : Bool) (s : State) (moved : InputFilter → InputFilter), BeaconsJudged s →
     (∀ f, moved f = if s.inReset then { raw := level, filtered := f.filtered, candidate := none }
       else filterMoved f level (max s.now t)) →
     (∀ line f, s.markFilters[line]? = some f →
       exec (.markInputChange t line level) s = .next { s.advance t with
         markFilters := s.markFilters.set line (moved f) }) ∧
     (∀ c line f, (s.ch c).permits[line]? = some f →
       exec (.permitInputChange t c line level) s = .next ((s.advance t).updCh c fun x =>
         { x with permits := x.permits.set line (moved f) })) ∧
     (∀ c, exec (.readbackInputChange t c level) s = .next ((s.advance t).updCh c fun x =>
         { x with line := { x.line with readback := moved x.line.readback } }))) ∧
  ∀ (t : Micros) (s : State), Running s →
    (∀ line f, s.markFilters[line]? = some f →
      (FilterWaits f (max s.now t) → exec (.markFilterAccept t line) s = .next (s.advance t)) ∧
      (∀ edge, FilterDue f edge (max s.now t) → f.raw = false →
        exec (.markFilterAccept t line) s = .next { s.advance t with
          markFilters := s.markFilters.set line (filterAccepted f) })) ∧
    (∀ c line f, (s.ch c).permits[line]? = some f →
      (FilterWaits f (max s.now t) → exec (.permitFilterAccept t c line) s = .next (s.advance t)) ∧
      (∀ edge, FilterDue f edge (max s.now t) → (s.params c).permitEn.getLsbD line = false →
        exec (.permitFilterAccept t c line) s = .next ((s.advance t).updCh c fun x =>
          { x with permits := x.permits.set line (filterAccepted f) }))) ∧
    (∀ c, FilterWaits (s.ch c).line.readback (max s.now t) →
      exec (.readbackFilterAccept t c) s = .next (s.advance t))

/-- R31 to R35, R39: a mark edge whose selected entry lies within its tolerance starts the correction of the
channel's primary conveyance by the mark error (negated for a counterweight mark), confirms the channel,
disarms the entry and is recorded as the last accepted mark. On channel A it rebases the creep check. -/
def Obligations.AcceptedMarksStartCorrections : Prop :=
  ∀ (t : Micros) (s : State) (line : Nat) (f : InputFilter) (edge : Micros) (k : Candidate),
    Settled s → s.markFilters[line]? = some f → FilterDue f edge (max s.now t) → f.raw = true →
    f.filtered = false → Selected k (s.candidates line edge) → k.distance ≤ k.entry.tol →
    ∃ u : State, exec (.markFilterAccept t line) s = .next u ∧
      u.markFilters = s.markFilters.set line (filterAccepted f) ∧
      u.arms = s.arms.set k.index .idle ∧
      (∀ e : Int, e = (if k.entry.conv = .cwt then -(k.entry.depth - k.edge) else k.entry.depth - k.edge) →
        (u.ch (convChannel k.entry.conv)).prim.correction =
          some ⟨sgn e, (mag e).toNat / 64, (mag e).toNat % 64, 0, 0⟩) ∧
      (u.ch (convChannel k.entry.conv)).ctr.confirmed = true ∧
      (u.conv k.entry.conv).lastMark = some k.index ∧
      (convChannel k.entry.conv = .a → u.chA.ctr.dBase = s.chA.ctr.dDiv ∧
        u.chA.ctr.creepExcess = false) ∧
      (∀ c, (u.ch c).state = (s.ch c).state ∧ (u.ch c).env = (s.ch c).env ∧
        (u.ch c).rsv = (s.ch c).rsv) ∧
      u.notices = s.notices ∧ u.refQueue = s.refQueue ∧
      Kept ({ s.advance t with markFilters := u.markFilters }.updCh (convChannel k.entry.conv) fun x =>
        { x with
          prim := { x.prim with
            correction := (u.ch (convChannel k.entry.conv)).prim.correction
            lastMark := (u.ch (convChannel k.entry.conv)).prim.lastMark }
          cwt := { x.cwt with lastMark := (u.ch (convChannel k.entry.conv)).cwt.lastMark }
          ctr := { x.ctr with
            confirmed := true
            dBase := (u.ch (convChannel k.entry.conv)).ctr.dBase
            creepExcess := (u.ch (convChannel k.entry.conv)).ctr.creepExcess } }) u

/-- R36, R37: a mark edge whose selected entry lies beyond its tolerance but within its capture clears Confirmed and
stops the channel; one beyond its capture raises MARK_UNEXPECTED of each channel that has an eligible entry on the
line, with that channel's nearest entry, and of no other, and changes no arm state of a channel that goes on moving
or standing; an edge with no eligible entry changes nothing but its filter. None of them starts a correction. -/
def Obligations.DoubtfulMarksAreReported : Prop :=
  ∀ (t : Micros) (s : State) (line : Nat) (f : InputFilter) (edge : Micros),
    Settled s → s.markFilters[line]? = some f → FilterDue f edge (max s.now t) → f.raw = true →
    f.filtered = false →
    (s.candidates line edge = [] → exec (.markFilterAccept t line) s =
      .next { s.advance t with markFilters := s.markFilters.set line (filterAccepted f) }) ∧
    (∀ k, Selected k (s.candidates line edge) → k.entry.tol < k.distance →
      ∃ u : State, exec (.markFilterAccept t line) s = .next u ∧
        Kept ({ s.advance t with markFilters := s.markFilters.set line (filterAccepted f) }.updCh
          (convChannel k.entry.conv) fun x => { x with
            ctr := { x.ctr with confirmed := (u.ch (convChannel k.entry.conv)).ctr.confirmed } }) u ∧
        (k.distance ≤ 4 * k.entry.tol →
          (u.ch (convChannel k.entry.conv)).ctr.confirmed = false ∧
          u.arms[k.index]? = (s.arms.set k.index .idle)[k.index]? ∧
          (u.ch (convChannel k.entry.conv)).state.mayBlock = true) ∧
        (4 * k.entry.tol < k.distance →
          (∀ c, (u.ch c).ctr = (s.ch c).ctr) ∧
          (∀ (i : Nat) (e : MarkEntry) (a : ArmState), s.active.marks[i]? = some e → s.arms[i]? = some a →
            (u.ch (convChannel e.conv)).state.moving = (s.ch (convChannel e.conv)).state.moving →
            u.arms[i]? = some a) ∧
          (∀ d, (∀ m ∈ s.candidates line edge, convChannel m.entry.conv ≠ d) →
            (u.ch d).flag .markUnexpected = (s.ch d).flag .markUnexpected) ∧
          ∀ d m, Selected m ((s.candidates line edge).filter fun m => convChannel m.entry.conv = d) →
            (s.ch d).flags.length = 24 → EventTaken s u d .markUnexpected ∧
            ((s.active.route d .markUnexpected).notify = true →
              u.noticesLost = false → ∃ n ∈ u.notices, n.body =
                { origin := .channel d .markUnexpected, cls := (s.active.route d .markUnexpected).cls,
                  injected := false, conv := some m.entry.conv, depth := some m.edge,
                  speed := some (s.ch d).ctr.vMeas, value := some (m.entry.depth - m.edge), offence := none })))

/-- R117, R107: a heeded permit line accepted as deasserted while its channel moves makes PERMIT_LOST true and
stops the channel; accepted as asserted, with every other heeded line asserted, it makes PERMIT_LOST false. -/
def Obligations.LostPermitsStopTheChannel : Prop :=
  ∀ (t : Micros) (s : State) (c : Channel) (line : Nat) (f : InputFilter) (edge : Micros),
    Settled s → line < 8 → (s.ch c).permits[line]? = some f → FilterDue f edge (max s.now t) →
    (s.params c).permitEn.getLsbD line = true →
    ∃ u : State, exec (.permitFilterAccept t c line) s = .next u ∧
      Kept ((s.advance t).updCh c fun x =>
        { x with permits := x.permits.set line (filterAccepted f) }) u ∧
      (f.raw = false → (s.ch c).state.moving = true → (s.ch c).permitLost = false →
        (u.ch c).state.mayBlock = true ∧ (u.ch c).permitLost = (u.ch c).state.moving) ∧
      (f.raw = true → (∀ n, n < 8 → n ≠ line → (s.params c).permitEn.getLsbD n = true →
          ∃ g, (s.ch c).permits[n]? = some g ∧ g.filtered = true) →
        (u.ch c).permitLost = false ∧ (u.ch c).state = (s.ch c).state)

/-- R141, R143: an accepted readback change that agrees with the command puts the monitor in AGREE with its
window stopped; one that does not starts a window where the monitor was in AGREE. Accepted as open, it makes
the TRIPLINE_STUCK condition false. -/
def Obligations.ReadbackChangesMoveTheMonitor : Prop :=
  ∀ (t : Micros) (s : State) (c : Channel) (edge : Micros), Running s →
    FilterDue (s.ch c).line.readback edge (max s.now t) →
    ∃ u : State, exec (.readbackFilterAccept t c) s = .next u ∧
      (u.ch c).line.readback = filterAccepted (s.ch c).line.readback ∧
      (u.ch c).line.closed = (s.ch c).line.closed ∧
      ((s.ch c).line.closed = (s.ch c).line.readback.raw →
        (u.ch c).line.monitor = .agree ∧ (u.ch c).line.window = none) ∧
      ((s.ch c).line.closed ≠ (s.ch c).line.readback.raw → (s.ch c).line.monitor = .agree →
        (u.ch c).line.monitor = .waiting ∧ (u.ch c).line.window = some ⟨max s.now t,
          if s.active.inUse c then ((s.params c).tRb * 1000).toNat else 200000⟩) ∧
      ((s.ch c).line.closed ≠ (s.ch c).line.readback.raw → (s.ch c).line.monitor ≠ .agree →
        (u.ch c).line.monitor = (s.ch c).line.monitor ∧ (u.ch c).line.window = (s.ch c).line.window) ∧
      (u.ch c).line.stuck = ((s.ch c).line.stuck && (s.ch c).line.readback.raw) ∧
      (u.ch (otherChannel c)).line = (s.ch (otherChannel c)).line ∧
      (∀ d, (u.ch d).state = (s.ch d).state ∧ (u.ch d).prim = (s.ch d).prim ∧ (u.ch d).cwt = (s.ch d).cwt ∧
        (u.ch d).ctr = (s.ch d).ctr ∧ (u.ch d).env = (s.ch d).env ∧ (u.ch d).rsv = (s.ch d).rsv) ∧
      u.notices = s.notices ∧ u.refQueue = s.refQueue ∧ u.arms = s.arms ∧
      Kept ((s.advance t).updCh c fun x => { x with line := (u.ch c).line }) u

/-- R141 to R143, R145, R146: the window of a line commanded CLOSED that expires with its readback open trips
the channel; of a line commanded OPEN, it finds the contact stuck, opens the master trip line, stops the hold
output and trips both channels. Either way the window has stopped; the monitor is REPORTED, until a trip that opens
the line brings command and readback to agree. (A window that has not run out does nothing: the model's choice,
log 2.) -/
def Obligations.ReadbackWindowsReport : Prop :=
  ∀ (t : Micros) (s : State) (c : Channel), Settled s →
    (NotRunOut (s.ch c).line.window (max s.now t) →
      exec (.readbackWindowExpiry t c) s = .next (s.advance t)) ∧
    (∀ w, RunOut (s.ch c).line.window w (max s.now t) → (s.ch c).line.monitor = .waiting →
      ((s.ch c).line.closed = true →
        ∃ u : State, exec (.readbackWindowExpiry t c) s = .next u ∧ Kept (s.advance t) u ∧
          ((s.ch c).state ≠ .idle → (u.ch c).state = .tripped) ∧
          (LineFollows (s.ch c) → (s.ch c).line.readback.filtered = false →
            (u.ch c).line.closed = false ∧ (u.ch c).line.monitor = .agree ∧ (u.ch c).line.window = none)) ∧
      ((s.ch c).line.closed = false → (s.ch c).line.stuck = false →
        ∃ u : State, exec (.readbackWindowExpiry t c) s = .next u ∧
          (u.ch c).line.stuck = true ∧ u.masterClosed = false ∧ u.holdOn = false ∧ u.holdHigh = false ∧
          Kept ({ s.advance t with masterClosed := false, holdOn := false, holdHigh := false }.updCh c
            fun x => { x with line := { x.line with stuck := true, stuckWindow := w } }) u ∧
          (LineFollows (s.ch c) → (u.ch c).line.closed = false ∧ (u.ch c).line.monitor = .reported ∧
            (u.ch c).line.window = none) ∧
          ((s.ch c).state ≠ .idle → (s.active.route c .triplineStuck).scope = .both →
            (u.ch c).state = .tripped ∧
            ((s.ch (otherChannel c)).state ≠ .idle → (u.ch (otherChannel c)).state = .tripped))))

/-- R20, R30: when the feedback gap timer expires with no frame of the channel under evaluation, FBK_LOSS becomes
true, feedback is no longer valid, a re-base is pending, the timer stops, the last judged depths are forgotten, the
channel's mark entries are IDLE, and a channel that is not IDLE is TRIPPED; the estimates stay frozen. Where a frame
has been taken first the expiry does not happen (log 43). R97: with FBK_LOSS of scope OWN, and no channel in BACKOUT
beyond an end limit, the channel so tripped sends a zero frame where its forwarded reference was not 0 and the queue
has a place. (A timer that has not run out does nothing: the model's choice, log 2.) -/
def Obligations.FeedbackLossTrips : Prop :=
  ∀ (t : Micros) (s : State) (c : Channel), Settled s →
    (NotRunOut (s.ch c).ctr.gapTimer (max s.now t) ∨ (s.ch c).underway.isSome = true →
      exec (.fbkGapTimerExpiry t c) s = .next (s.advance t)) ∧
    (∀ w, RunOut (s.ch c).ctr.gapTimer w (max s.now t) → (s.ch c).underway = none →
      ∃ u : State, exec (.fbkGapTimerExpiry t c) s = .next u ∧
        ((s.ch c).state ≠ .idle → (u.ch c).state = .tripped) ∧
        ((s.ch c).state = .idle → (u.ch c).state = .idle) ∧
        ((s.ch c).state ≠ .idle → (s.ch c).state ≠ .tripped →
          (s.active.route c .fbkLoss).scope = .own → BackoutsWithinLimits s →
          (u.ch c).rsv.forwarded = 0 ∧ ZeroFrameSent s u c) ∧
        (∀ (i : Nat) (e : MarkEntry) (a : ArmState), s.active.marks[i]? = some e → convChannel e.conv = c →
          s.arms[i]? = some a → u.arms[i]? = some .idle) ∧
        Kept ((s.advance t).updCh c fun x => { x with
          ctr := { x.ctr with
            fbkLoss := true
            feedbackValid := false
            rebasePending := true
            gapTimer := none }
          prim := { x.prim with lastJudged := none }
          cwt := if c = .a then { x.cwt with lastJudged := none } else x.cwt }) u)

/-- R95, R87: at each expiry of the substitute period timer the part originates the channel's next reference:
one stopping step less, never above the permit, with the drive's address, the last control byte and the
substitute flag; the forwarded reference becomes it and the timer restarts with T_nom. R91 to R93, R95: when the
reference gap timer expires, LINK_LOSS becomes true and the timer stops. In a moving state the loss count goes up by
1 to at most 3, and the channel is STOPPING, substituting, its first substitute frame originated, or HELD at once
where that brings 0 to a channel at rest (the order of the step: logs 12 and 33); READY goes to HELD, HELD and
TRIPPED stay, and the loss count of a standing channel stays. A route of class TRIP leaves it TRIPPED with 0
forwarded. (A timer that has not run out does nothing: the model's choice, log 2.) -/
def Obligations.SubstituteFramesRampDown : Prop :=
  ∀ (t : Micros) (s : State) (c : Channel), Settled s →
    (NotRunOut (s.ch c).rsv.subTimer (max s.now t) →
      exec (.substitutePeriodExpiry t c) s = .next (s.advance t)) ∧
    (∀ w v, RunOut (s.ch c).rsv.subTimer w (max s.now t) → (s.ch c).rsv.substituting = true →
      (s.ch c).state = .stopping → s.refQueue.length < 4 →
      v = s.stepped c →
      ∃ u : State, exec (.substitutePeriodExpiry t c) s = .next u ∧
        u.refQueue = s.refQueue ++ [originatedItem s c v] ∧ (u.ch c).rsv.forwarded = v ∧
        ((u.ch c).state = .stopping ∧ (u.ch c).rsv.substituting = true ∧
            (u.ch c).rsv.subTimer = some ⟨max s.now t, (s.params c).tNom.toNat⟩ ∨
          (u.ch c).state = .held ∧ v = 0 ∧ (u.ch c).rsv.substituting = false ∧
            (u.ch c).rsv.subTimer = none) ∧
        Kept (s.advance t) u) ∧
    (NotRunOut (s.ch c).rsv.gapTimer (max s.now t) →
      exec (.refGapTimerExpiry t c) s = .next (s.advance t)) ∧
    (∀ w, RunOut (s.ch c).rsv.gapTimer w (max s.now t) →
      ∃ u : State, exec (.refGapTimerExpiry t c) s = .next u ∧
        (u.ch c).rsv.linkLoss = true ∧ (u.ch c).rsv.gapTimer = none ∧
        (u.ch c).rsv.lossCount = (if (s.ch c).state.moving then min 3 ((s.ch c).rsv.lossCount + 1)
          else (s.ch c).rsv.lossCount) ∧
        Kept ((s.advance t).updCh c fun x => { x with rsv := { x.rsv with
          linkLoss := true, lossCount := (u.ch c).rsv.lossCount } }) u ∧
        (LossTrips s c → (s.ch c).state ≠ .idle → (u.ch c).state = .tripped ∧
          ((s.ch c).state.moving = true → (u.ch c).rsv.forwarded = 0 ∧ (u.ch c).rsv.substituting = false)) ∧
        (¬ LossTrips s c → BackoutsWithinLimits s →
          ((s.ch c).state = .ready ∨ (s.ch c).state = .held → (u.ch c).state = .held) ∧
          ((s.ch c).state = .tripped ∨ (s.ch c).state = .idle → (u.ch c).state = (s.ch c).state) ∧
          ((s.ch c).state.moving = false → u.refQueue = s.refQueue) ∧
          ((s.ch c).state.moving = true → ∀ v,
            v = (if (s.ch c).rsv.substituting then (s.ch c).rsv.forwarded else s.stepped c) →
            (u.ch c).rsv.forwarded = v ∧
            (u.ch c).state = (if v = 0 ∧ (s.ch c).ctr.feedbackValid = true ∧
              mag (s.ch c).ctr.vMeas ≤ (s.params c).vRest then .held else .stopping) ∧
            (u.ch c).rsv.substituting = decide ((u.ch c).state = .stopping) ∧
            ((s.ch c).rsv.substituting = true → u.refQueue = s.refQueue) ∧
            ((s.ch c).rsv.substituting = false → s.refQueue.length < 4 →
              u.refQueue = s.refQueue ++ [originatedItem s c v] ∧
              ((u.ch c).state = .stopping →
                (u.ch c).rsv.subTimer = some ⟨max s.now t, (s.params c).tNom.toNat⟩)))))

/-- R146, R147: the generators turn over at each half-period of 1,000 µs and 500,000 µs while they run, and
change nothing else. (A half-period not yet over does nothing, and one that ends late starts the next from that
later moment: the model's choices, log 2.) -/
def Obligations.GeneratorsTurnOver : Prop :=
  ∀ (t : Micros) (s : State), Running s →
    (s.holdOn = true → s.holdSince + 1000 ≤ max s.now t →
      exec (.holdGeneratorHalfPeriod t) s =
        .next { s.advance t with holdHigh := !s.holdHigh, holdSince := max s.now t }) ∧
    (s.holdOn = false ∨ max s.now t < s.holdSince + 1000 →
      exec (.holdGeneratorHalfPeriod t) s = .next (s.advance t)) ∧
    (s.flashOn = true → s.flashSince + 500000 ≤ max s.now t →
      exec (.flashGeneratorHalfPeriod t) s =
        .next { s.advance t with flashLit := !s.flashLit, flashSince := max s.now t }) ∧
    (s.flashOn = false ∨ max s.now t < s.flashSince + 500000 →
      exec (.flashGeneratorHalfPeriod t) s = .next (s.advance t))

/-- R6, R7, R8, R19, R20, R135, R173: an evaluation takes the frame's fields into the channel's context, restarts
the feedback gap timer with f × T_nom, hands the waiting frame over in its turn, and sends the evaluated frame up
with the channel's trailer and the head notice, which leaves the queue (where the buffer is full the frame is lost
and counted, and the notice stays: log 9); of the rest of the state it changes only the channel's records, context,
derating and what the routing of events may change. R9, R13, R14, R17, R68 to R70: it raises COUNT_JUMP, ROPE_SLIP,
CREEP_EXCESS, REVERSE_MOTION, BARRIER_ENTRY and DERATE_CHANGE where their tests hold, and at no other time. -/
def Obligations.EvaluationTakesInTheFrame : Prop :=
  ∀ (t : Micros) (c : Channel) (s : State) (h : HeldFbk), Settled s → s.active.inUse c = true →
    (s.ch c).underway = some h →
    ∃ (u : State) (q : List Notice), exec (.feedbackEvaluation t c) s = .next u ∧
      (u.ch c).ctr.vMeas =
        max (-20000) (min 20000 ((s.params c).drumDir.sign * fbkRopeSpeed h.frame)) ∧
      (u.ch c).ctr.feedbackValid = true ∧ (u.ch c).ctr.fbkLoss = false ∧
      (u.ch c).ctr.rebasePending = false ∧ (u.ch c).ctr.lastDrumCount = fbkDrumCount h.frame ∧
      (u.ch c).ctr.c0 = fbkInput h.frame 0 ∧ (u.ch c).ctr.c1 = fbkInput h.frame 1 ∧
      (u.ch c).ctr.c2 = fbkInput h.frame 2 ∧ (u.ch c).ctr.c3 = fbkInput h.frame 3 ∧
      (c = .b → (u.ch c).ctr.reportedPayload = fbkPayload h.frame) ∧
      (u.ch c).ctr.lastArrival = h.arrival ∧
      (u.ch c).ctr.gapTimer = some ⟨max s.now t, ((s.params c).f * (s.params c).tNom).toNat⟩ ∧
      (u.ch c).underway = (s.ch c).place ∧ (u.ch c).place = none ∧
      (u.noticesLost = false → s.notices <+: q) ∧
      (s.fbkOut.length < 4 → u.fbkOut = s.fbkOut ++
          [{ h.frame with payload := h.frame.payload ++ u.trailer c ++ trailerNotice q }] ∧
        u.notices = q.drop 1 ∧ u.ovUp = s.ovUp) ∧
      (4 ≤ s.fbkOut.length → u.fbkOut = s.fbkOut ∧ u.notices = q ∧ u.ovUp = bump s.ovUp) ∧
      Kept ({ s.advance t with fbkOut := u.fbkOut, ovUp := u.ovUp }.updCh c fun x => { x with
        underway := (s.ch c).place
        place := none
        prim := (u.ch c).prim
        cwt := (u.ch c).cwt
        ctr := (u.ch c).ctr
        env := { x.env with groups := (u.ch c).env.groups, factor := (u.ch c).env.factor } }) u ∧
      (Shaped s → (s.ch c).state ≠ .idle → 0 ≤ (s.params c).vRest → 0 ≤ (s.params c).creepLim →
        JumpJudged s u q c h ∧ (c = .a → DivergenceJudged s u) ∧ ReverseJudged s u c h ∧
        BarriersJudged s u c ∧ DerateJudged s u c)

/-- R7, R8, R10, R12, R15, R16, R39: an evaluation adds the counts of the drum and the wheel to the
accumulators, or re-bases them on the datum; forms the depths, the stretch, of the payload latched before, and the
divergence; delivers the
next share of a pending correction; and forms the estimates, the counterweight's from the cage's. (A sum outside
64 bits is free: log 19.) -/
def Obligations.EvaluationFormsTheDepths : Prop :=
  ∀ (t : Micros) (c : Channel) (s : State) (h : HeldFbk), Settled s → s.active.inUse c = true →
    (s.ch c).underway = some h →
    ∃ u : State, exec (.feedbackEvaluation t c) s = .next u ∧
      ((s.ch c).ctr.rebasePending = true →
        (∀ x, x = (s.params c).drumDir.sign *
            (fbkDrumCount h.frame - BitVec.ofInt 32 (s.params c).datum).toInt * (s.params c).sD →
          -(2 ^ 63) ≤ x → x < 2 ^ 63 → (u.ch c).prim.drumFine = x) ∧
        (c = .a → u.chA.prim.sheaveFine = u.chA.prim.drumFine ∧ u.chA.ctr.dDiv = 0 ∧
          u.chA.ctr.dBase = 0)) ∧
      ((s.ch c).ctr.rebasePending = false →
        (∀ x, x = (s.ch c).prim.drumFine + (s.params c).drumDir.sign *
            (fbkDrumCount h.frame - (s.ch c).ctr.lastDrumCount).toInt * (s.params c).sD →
          -(2 ^ 63) ≤ x → x < 2 ^ 63 → (u.ch c).prim.drumFine = x) ∧
        (c = .a →
          (∀ x, x = s.chA.prim.sheaveFine + (s.params .a).sheaveDir.sign *
              (s.chA.ctr.sheaveCounter - s.chA.ctr.lastSheaveCount).toInt * (s.params .a).sS →
            -(2 ^ 63) ≤ x → x < 2 ^ 63 → u.chA.prim.sheaveFine = x) ∧
          u.chA.ctr.dDiv = u.chA.prim.drumDepth - u.chA.prim.sheaveDepth ∧
          u.chA.ctr.dDivPrev = s.chA.ctr.dDiv ∧ u.chA.ctr.dBase = s.chA.ctr.dBase)) ∧
      (u.ch c).ctr.lastDrumCount = fbkDrumCount h.frame ∧
      (u.ch c).prim.drumDepth = (u.ch c).prim.drumFine / 2 ^ 20 ∧
      (c = .a → u.chA.prim.sheaveDepth = u.chA.prim.sheaveFine / 2 ^ 20 ∧
        u.chA.ctr.lastSheaveCount = s.chA.ctr.sheaveCounter) ∧
      (u.ch c).prim.payload = (s.ch c).prim.payload ∧
      (c = .b → u.chB.prim.stretch =
        (max 0 u.chB.prim.drumDepth * u.chB.prim.payload * (s.params .b).k) / 2 ^ 36) ∧
      ((s.ch c).prim.correction = none → (u.ch c).prim.correction = none ∧
        (u.ch c).prim.corrTotal = (s.ch c).prim.corrTotal) ∧
      (∀ k, (s.ch c).prim.correction = some k →
        (u.ch c).prim.corrTotal = (s.ch c).prim.corrTotal +
          k.sign * ((k.h : Int) + if bitrev6 k.next < k.l then 1 else 0) ∧
        (u.ch c).prim.correction = if k.next + 1 < 64 then
          some { k with
            next := k.next + 1
            delivered := k.delivered + k.sign * ((k.h : Int) + if bitrev6 k.next < k.l then 1 else 0) }
          else none) ∧
      (u.ch c).prim.est = max (-30000) (min 4200000
        ((match c with
          | .a => u.chA.prim.sheaveDepth
          | .b => u.chB.prim.drumDepth + u.chB.prim.stretch) + (u.ch c).prim.corrTotal)) ∧
      (c = .a → u.chA.cwt.est = (s.params .a).lBal - u.chA.prim.est)

/-- R49, R69, R70, R72 to R77, R53: outside BACKOUT an evaluation looks the profiles up at the new estimates,
composes the conveyance permits, forms the channel permits and moves the ceilings toward their targets; a channel
found faster than its ceiling ends TRIPPED, and the overwind conditions say whether a conveyance stands beyond its
limits. R56, R73 to R75, R97, R114: one in BACKOUT that no event disturbs holds the permits to v_creep, judges the
overwind by the thresholds of the entry into BACKOUT, and ends it in HELD at clearance, with a zero frame where the
forwarded reference was not 0 (the low alarms are taken as routed with class NOTE, the floor of both). -/
def Obligations.EvaluationFormsTheEnvelope : Prop :=
  (∀ (t : Micros) (c : Channel) (s : State) (h : HeldFbk), Settled s → s.active.inUse c = true →
    (s.ch c).underway = some h → (s.ch c).state ≠ .backout → (s.ch c).state ≠ .idle → Shaped s →
    ∃ u : State, exec (.feedbackEvaluation t c) s = .next u ∧
      (u.ch c).env.factor = derateFactor (s.active.derate c).groups (u.ch c).env.groups ∧
      (∀ v, convChannel v = c →
        (u.conv v).profDown = lookup (s.ch c).plane .down (s.active.profile v) (u.conv v).est ∧
        (u.conv v).profUp = lookup (s.ch c).plane .up (s.active.profile v) (u.conv v).est ∧
        (u.conv v).permitDown = composePermit (u.conv v).profDown
          (restrictionCap s.restrictions v (u.conv v).est) (u.ch c).ctr.confirmed (s.params c).vUnconf
          (u.ch c).env.factor ∧
        (u.conv v).permitUp = composePermit (u.conv v).profUp
          (restrictionCap s.restrictions v (u.conv v).est) (u.ch c).ctr.confirmed (s.params c).vUnconf
          (u.ch c).env.factor) ∧
      (c = .a → u.chA.env.pDown = min u.chA.prim.permitDown u.chA.cwt.permitUp ∧
        u.chA.env.pUp = min u.chA.prim.permitUp u.chA.cwt.permitDown) ∧
      (c = .b → u.chB.env.pDown = u.chB.prim.permitDown ∧ u.chB.env.pUp = u.chB.prim.permitUp) ∧
      (∀ target, target = ((u.ch c).env.pDown * (64 + (s.params c).tCeil)) / 64 + (s.params c).mAbs →
        (u.ch c).env.ceilDown = if (s.ch c).state = .held ∧ (u.ch c).state = .ready then target
          else if (s.ch c).env.ceilDown ≤ target then target
          else max target ((s.ch c).env.ceilDown -
            ceilDiv ((s.params c).aTrip * (s.params c).tNom) 1000000)) ∧
      (∀ target, target = ((u.ch c).env.pUp * (64 + (s.params c).tCeil)) / 64 + (s.params c).mAbs →
        (u.ch c).env.ceilUp = if (s.ch c).state = .held ∧ (u.ch c).state = .ready then target
          else if (s.ch c).env.ceilUp ≤ target then target
          else max target ((s.ch c).env.ceilUp -
            ceilDiv ((s.params c).aTrip * (s.params c).tNom) 1000000)) ∧
      (¬ ((s.ch c).state = .held ∧ (u.ch c).state = .ready) → (u.ch c).ctr.vMeas ≠ 0 →
        (if 0 < (u.ch c).ctr.vMeas then (u.ch c).env.ceilDown else (u.ch c).env.ceilUp) <
          mag (u.ch c).ctr.vMeas → (u.ch c).state = .tripped) ∧
      (u.ch c).env.overDeep =
        (convsOf c).any (fun v => decide ((s.active.convParams v).bottom < (u.conv v).est)) ∧
      (u.ch c).env.overHigh =
        (convsOf c).any (fun v => decide ((u.conv v).est < (s.active.convParams v).top))) ∧
  ∀ (t : Micros) (c : Channel) (s : State) (h : HeldFbk) (b : BackoutRec), Settled s →
    s.active.inUse c = true → (s.ch c).underway = some h → (s.ch c).state = .backout →
    (s.ch c).env.backout = some b → FlagsObeyed s → Shaped s →
    (s.active.route c .lowAlarm0).cls = .note → (s.active.route c .lowAlarm1).cls = .note →
    ∃ u : State, exec (.feedbackEvaluation t c) s = .next u ∧
      (u.hasBlocking c = false → BackoutJudged s u c b)

/-- R81, R82: an early REF frame is discarded and changes no item of the reference context; a stale one keeps
its control byte and SRC and is forwarded with the held speed, or is absorbed while the channel is
substituting. R98: where 4 frames wait already, the oldest of the same channel, or the oldest of all where it has
none, is discarded and counted. (Their own events are taken as routed with class NOTE, R121's floor for both. The
boundary between early and not is the model's choice: T_nom / 4 is taken exactly, with no rounding, log 41.) -/
def Obligations.EarlyAndStaleFrames : Prop :=
  ∀ (t : Micros) (s : State) (c : Channel) (f : LinkFrame), RefArrives s c f →
    (¬ Spaced s c (max s.now t) →
      ∃ u : State, exec (.refFrameReceived t f) s = .next u ∧ Kept (s.advance t) u ∧
        ((s.active.route c .refEarly).cls = .note →
          u.refQueue = s.refQueue ∧ u.ovDown = s.ovDown ∧ (u.ch c).rsv = (s.ch c).rsv ∧
            (u.ch c).state = (s.ch c).state)) ∧
    (Spaced s c (max s.now t) → (s.ch c).rsv.lastToggle = some (refToggle f) →
      ∃ u : State, exec (.refFrameReceived t f) s = .next u ∧ RefFrameKept (s.advance t) u c ∧
        (u.ch c).rsv.lastControl = refControl f ∧ (u.ch c).rsv.lastController = f.src ∧
        (u.ch c).rsv.lastAccepted = (s.ch c).rsv.lastAccepted ∧
        (u.ch c).rsv.lastToggle = (s.ch c).rsv.lastToggle ∧
        (u.ch c).rsv.linkLoss = (s.ch c).rsv.linkLoss ∧
        ((s.active.route c .refStale).cls = .note → (s.ch c).rsv.substituting = true →
          u.refQueue = s.refQueue ∧ u.ovDown = s.ovDown ∧
            (u.ch c).rsv.forwarded = (s.ch c).rsv.forwarded) ∧
        ((s.active.route c .refStale).cls = .note → (s.ch c).rsv.substituting = false →
          ∀ v, v = sgn (s.ch c).rsv.forwarded * min (mag (s.ch c).rsv.forwarded)
              (s.permitToward c (s.ch c).rsv.forwarded) →
            (u.ch c).rsv.forwarded = v ∧
            (s.refQueue.length < 4 →
              u.refQueue = s.refQueue ++ [forwardedItem c f v] ∧ u.ovDown = s.ovDown) ∧
            (4 ≤ s.refQueue.length → u.ovDown = bump s.ovDown ∧
              ∃ (before after : List RefItem) (r : RefItem), s.refQueue = before ++ r :: after ∧
                u.refQueue = before ++ after ++ [forwardedItem c f v] ∧
                (r.chan = c ∧ (∀ x ∈ before, x.chan ≠ c) ∨ before = [] ∧ ∀ x ∈ s.refQueue, x.chan ≠ c))))

/-- R84, R83, R90, R105: in HELD and TRIPPED an accepted REF frame is forwarded with speed 0 whatever it asks,
and in READY so is a request of 0; the frame is kept as the last one and the gap timer restarts. HELD is then
left for READY exactly where the conditions of admission hold. R98: where 4 frames wait already, the oldest of
the same channel, or the oldest of all where it has none, is discarded and counted. -/
def Obligations.StandingChannelsForwardZero : Prop :=
  ∀ (t : Micros) (s : State) (c : Channel) (f : LinkFrame), RefAccepted s c f (max s.now t) →
    (s.ch c).rsv.substituting = false →
    ((s.ch c).state = .held ∨ (s.ch c).state = .tripped ∨
      (s.ch c).state = .ready ∧ s.request c f = 0) →
    ∃ u : State, exec (.refFrameReceived t f) s = .next u ∧ RefFrameKept (s.advance t) u c ∧
      RefTaken (u.ch c) f (max s.now t) ∧ (u.ch c).rsv.forwarded = 0 ∧
      (s.refQueue.length < 4 →
        u.refQueue = s.refQueue ++ [forwardedItem c f 0] ∧ u.ovDown = s.ovDown) ∧
      (4 ≤ s.refQueue.length → u.ovDown = bump s.ovDown ∧
        ∃ (before after : List RefItem) (r : RefItem), s.refQueue = before ++ r :: after ∧
          u.refQueue = before ++ after ++ [forwardedItem c f 0] ∧
          (r.chan = c ∧ (∀ x ∈ before, x.chan ≠ c) ∨ before = [] ∧ ∀ x ∈ s.refQueue, x.chan ≠ c)) ∧
      (u.ch c).rsv.lossCount = (s.ch c).rsv.lossCount ∧
      (u.ch c).rsv.gapTimer = some ⟨max s.now t, ((s.params c).tLong * 1000).toNat⟩ ∧
      (u.ch c).state = (if (s.ch c).state = .held ∧ u.hasBlocking c = false ∧
        (s.ch c).ctr.feedbackValid = true ∧ (s.ch c).rsv.lossCount < 3 then .ready else (s.ch c).state) ∧
      u.notices = s.notices

/-- R85, R86, R88, R11, R90: a nonzero request in READY that meets the start conditions starts a wind with the
clamped speed, latches the skip's payload and gives the gap timer its moving timeout; one that fails any of
them is forwarded as 0 and leaves READY as it is. (REF_CLAMPED and REF_BLOCKED are taken as routed with class
NOTE; a low alarm that holds at the start stops the wind by its own route.) -/
def Obligations.WindsStartUnderTheirConditions : Prop :=
  ∀ (t : Micros) (s : State) (c : Channel) (f : LinkFrame), RefAccepted s c f (max s.now t) →
    (s.ch c).rsv.substituting = false → (s.ch c).rsv.linkLoss = false → s.refQueue.length < 4 →
    (s.ch c).state = .ready → s.request c f ≠ 0 →
    (s.active.route c .refClamped).cls = .note → (s.active.route c .refBlocked).cls = .note →
    alarmHolds (s.active.derate c).alarm0 (s.ch c).ctr = false →
    alarmHolds (s.active.derate c).alarm1 (s.ch c).ctr = false →
    (s.hasBlocking c = false → s.lostPermits c = [] → (s.ch c).ctr.feedbackValid = true →
      0 < s.permitToward c (s.request c f) →
      ∃ (u : State) (v : Speed), exec (.refFrameReceived t f) s = .next u ∧
        v = sgn (s.request c f) * min (mag (s.request c f)) (s.permitToward c (s.request c f)) ∧
        (u.ch c).state = .run ∧ RefTaken (u.ch c) f (max s.now t) ∧
        u.refQueue = s.refQueue ++ [forwardedItem c f v] ∧ (u.ch c).rsv.forwarded = v ∧
        (u.ch c).rsv.gapTimer = some ⟨max s.now t, ((s.params c).g * (s.params c).tNom).toNat⟩ ∧
        (c = .b → u.chB.prim.payload = min s.chB.ctr.reportedPayload 40000) ∧
        (c = .a → u.chA.prim = s.chA.prim) ∧
        RefFrameKept ((s.advance t).updCh c fun x =>
          { x with prim := { x.prim with payload := (u.ch c).prim.payload } }) u c) ∧
    (s.hasBlocking c = true ∨ s.lostPermits c ≠ [] ∨ (s.ch c).ctr.feedbackValid = false ∨
        s.permitToward c (s.request c f) ≤ 0 →
      ∃ u : State, exec (.refFrameReceived t f) s = .next u ∧ RefFrameKept (s.advance t) u c ∧
        (u.ch c).state = .ready ∧ RefTaken (u.ch c) f (max s.now t) ∧
        u.refQueue = s.refQueue ++ [forwardedItem c f 0] ∧ (u.ch c).rsv.forwarded = 0)

/-- R86, R88: in RUN an accepted request is forwarded with the clamped speed, and in BACKOUT one toward the
backout direction is; against it, 0 goes to the drive. (REF_CLAMPED and REF_BLOCKED are taken as routed with
class NOTE.) A request of 0 in RUN that finds the channel at rest ends the wind: READY, and the loss count
returns to 0. -/
def Obligations.MovingChannelsForwardTheClampedSpeed : Prop :=
  ∀ (t : Micros) (s : State) (c : Channel) (f : LinkFrame), RefAccepted s c f (max s.now t) →
    (s.ch c).rsv.substituting = false → s.refQueue.length < 4 →
    (s.active.route c .refClamped).cls = .note → (s.active.route c .refBlocked).cls = .note →
    ((s.ch c).state = .run ∨ (s.ch c).state = .backout) →
    ∃ (u : State) (v : Speed), exec (.refFrameReceived t f) s = .next u ∧ RefFrameKept (s.advance t) u c ∧
      RefTaken (u.ch c) f (max s.now t) ∧
      u.refQueue = s.refQueue ++ [forwardedItem c f v] ∧ (u.ch c).rsv.forwarded = v ∧
      (s.request c f = 0 → v = 0) ∧
      (s.request c f ≠ 0 → (s.ch c).state = .run ∨
          (∃ b, (s.ch c).env.backout = some b ∧
            b.dir = some (if 0 < s.request c f then .down else .up)) →
        v = sgn (s.request c f) * min (mag (s.request c f)) (s.permitToward c (s.request c f))) ∧
      ((s.ch c).state = .backout → (∀ b, (s.ch c).env.backout = some b →
        b.dir ≠ some (if 0 < s.request c f then .down else .up)) → v = 0) ∧
      (u.ch c).state = (if (s.ch c).state = .run ∧ s.request c f = 0 ∧
          (s.ch c).ctr.feedbackValid = true ∧ mag (s.ch c).ctr.vMeas ≤ (s.params c).vRest then .ready
        else (s.ch c).state) ∧
      (u.ch c).rsv.lossCount = (if (u.ch c).state = .ready then 0 else (s.ch c).rsv.lossCount)

/-- R87, R96, R109: in STOPPING an accepted frame takes one stopping step off the speed, whatever it asks, and
never more than the permit goes to the drive; a channel that then has a forwarded reference of 0 and is at
rest goes to HELD. While the channel is substituting the frame is absorbed: its arrival and toggle count, and
nothing is forwarded. -/
def Obligations.StoppingChannelsRampDown : Prop :=
  ∀ (t : Micros) (s : State) (c : Channel) (f : LinkFrame), RefAccepted s c f (max s.now t) →
    (s.ch c).state = .stopping → s.refQueue.length < 4 →
    ∃ (u : State) (v : Speed), exec (.refFrameReceived t f) s = .next u ∧ RefFrameKept (s.advance t) u c ∧
      RefTaken (u.ch c) f (max s.now t) ∧ (u.ch c).rsv.lossCount = (s.ch c).rsv.lossCount ∧
      v = sgn (s.ch c).rsv.forwarded *
        min (max 0 (mag (s.ch c).rsv.forwarded - ceilDiv ((s.params c).aStop * (s.params c).tNom) 1000000))
          (s.permitToward c (s.ch c).rsv.forwarded) ∧
      ((s.ch c).rsv.substituting = false →
        u.refQueue = s.refQueue ++ [forwardedItem c f v] ∧ (u.ch c).rsv.forwarded = v ∧
        (u.ch c).state = if v = 0 ∧ (s.ch c).ctr.feedbackValid = true ∧
          mag (s.ch c).ctr.vMeas ≤ (s.params c).vRest then .held else .stopping) ∧
      ((s.ch c).rsv.substituting = true →
        u.refQueue = s.refQueue ∧ (u.ch c).rsv.forwarded = (s.ch c).rsv.forwarded ∧
        (u.ch c).state = .stopping)

/-- R50, R51: a profile with depths strictly ascending holds its end rows beyond its ends, and between two
rows gives the floor of the straight line, which lies between their limits. -/
def Obligations.ProfilesInterpolateBetweenRows : Prop :=
  ∀ (plane : Nat) (dir : Dir) (rows : List Row) (d : Depth),
    rows.Pairwise (fun r r' => r.depth < r'.depth) →
    (∀ r, rows.head? = some r → d ≤ r.depth → lookup plane dir rows d = (r.limits plane).get dir) ∧
    (∀ r, rows.getLast? = some r → r.depth ≤ d → lookup plane dir rows d = (r.limits plane).get dir) ∧
    (∀ i r r', rows[i]? = some r → rows[i + 1]? = some r' → r.depth ≤ d → d < r'.depth →
      lookup plane dir rows d = (r.limits plane).get dir +
        (((r'.limits plane).get dir - (r.limits plane).get dir) * (d - r.depth)) / (r'.depth - r.depth) ∧
      min ((r.limits plane).get dir) ((r'.limits plane).get dir) ≤ lookup plane dir rows d ∧
      lookup plane dir rows d ≤ max ((r.limits plane).get dir) ((r'.limits plane).get dir))

/-- R27 to R30: an evaluation judges the channel's mark entries at its new depths, which become the last judged
ones. While the channel moves, an entry is armed as its conveyance comes into its window in its direction, notes the
passing of its far side, is given up as the conveyance turns back, and is reported missed an evaluation after its
passing. A channel that has left the moving states has none armed. R31, R32: the candidates for a mark edge are the
valid entries of its line whose conveyances move fast enough in their direction, each at the depth extrapolated to
the edge. -/
def Obligations.MarkEntriesAreArmedAndMissed : Prop :=
  (∀ (t : Micros) (c : Channel) (s : State) (h : HeldFbk), Settled s → s.active.inUse c = true →
    (s.ch c).underway = some h → (s.ch c).state ≠ .idle → Shaped s →
    ∃ u : State, exec (.feedbackEvaluation t c) s = .next u ∧
      (∀ v, convChannel v = c → (u.conv v).lastJudged = some (u.conv v).est) ∧
      (∀ (i : Nat) (e : MarkEntry) (a : ArmState), s.active.marks[i]? = some e → s.arms[i]? = some a →
        (convChannel e.conv = c → (u.ch c).state.moving = false →
          (s.ch c).state.moving = true ∨ a = .idle → u.arms[i]? = some .idle) ∧
        (convChannel e.conv = c → (u.ch c).state.moving = true →
          (e.valid = false ∨ (s.conv e.conv).lastJudged = none → u.arms[i]? = some a) ∧
          (∀ prev, e.valid = true → 0 ≤ e.tol → (s.conv e.conv).lastJudged = some prev →
            (∃ b, u.arms[i]? = some b ∧ ArmJudged e prev (u.conv e.conv).est a b) ∧
            (MarkFoundMissed e (u.conv e.conv).est a → EventTaken s u c .markMissed))) ∧
        (convChannel e.conv ≠ c →
          (u.ch (otherChannel c)).state.moving = (s.ch (otherChannel c)).state.moving →
          u.arms[i]? = some a))) ∧
  ∀ (s : State) (line : Nat) (edge : Micros) (k : Candidate),
    k ∈ s.candidates line edge ↔ IsCandidate s line edge k

/-- R39: the 64 shares of a correction sum to it exactly, and each is H or H + 1 in magnitude. -/
def Obligations.SharesDeliverTheCorrection : Prop :=
  ∀ (c : Int) (share : Nat → Int),
    (∀ i, share i = Correction.share ⟨sgn c, (mag c).toNat / 64, (mag c).toNat % 64, i, 0⟩) →
    ((List.range 64).map share).sum = c ∧
    ∀ i, i < 64 → share i = sgn c * ((mag c).toNat / 64 : Nat) ∨
      share i = sgn c * ((mag c).toNat / 64 + 1 : Nat)

/-- R93, R98, R99, R133, R134, R169, R170, R171, R175: no step takes a buffer, a queue or a count past its
capacity. -/
def Obligations.StepsKeepCapacities : Prop :=
  ∀ s u : State, WithinCapacity s → LossBounded s → step s = .next u → WithinCapacity u ∧ LossBounded u

/-- R138, R101, R119: every step keeps the trip lines commanded by the channel states, a standing channel's
forwarded reference 0, substitution within STOPPING, the backout record within BACKOUT, and IDLE for exactly
the channels not in use. -/
def Obligations.StepsKeepLinesAndReferences : Prop :=
  ∀ s u : State, LinesFollow s → ReferencesSound s → IdleUnused s → step s = .next u →
    LinesFollow u ∧ ReferencesSound u ∧ IdleUnused u

/-- R43, R56, R73 to R76: every step keeps each limit and permit at or above 0, the permits in BACKOUT at or
below v_creep, and each ceiling of a channel in use at or above its target. R16: every step keeps the counterweight's
estimate and the cage's at a sum of L_bal while channel A has valid feedback. -/
def Obligations.StepsKeepCeilingsAndBalance : Prop :=
  (∀ s u : State, LimitsSound s → (∀ c, CeilingsHold (s.ch c) (s.params c) (s.active.inUse c)) →
    step s = .next u → LimitsSound u ∧ ∀ c, CeilingsHold (u.ch c) (u.params c) (u.active.inUse c)) ∧
  ∀ s u : State, EstimatesBalanced s → step s = .next u → EstimatesBalanced u

/-- R152, R153, R160, R163, R164: every step keeps a LOADED active bank and a VALID shadow passing the CHECK,
a pending commit within VALID, and a CHECK under way within CHECKING. -/
def Obligations.StepsKeepBanksChecked : Prop :=
  ∀ s u : State, BankAutomaton s → BanksChecked s → step s = .next u → BankAutomaton u ∧ BanksChecked u

/-- R104 to R108, R112, R118: no step leaves a channel out of TRIPPED with a TRIP-class blocking flag set, or
in READY, RUN or BACKOUT with any blocking flag set. -/
def Obligations.StepsObeyTheFlags : Prop :=
  ∀ s u : State, FlagsObeyed s → step s = .next u → FlagsObeyed u

/-- R143, R145, R146, R71, R117: every step keeps the master trip line open while a contact is known to be
stuck, the hold output pulsing exactly while the master line is closed, and the alarm and PERMIT_LOST
conditions of a standing channel false. -/
def Obligations.StepsKeepTheMasterLine : Prop :=
  ∀ s u : State, MasterSound s → StandingQuiet s.chA → StandingQuiet s.chB → step s = .next u →
    MasterSound u ∧ StandingQuiet u.chA ∧ StandingQuiet u.chB

/-- R43, R63, R123, R150: every step keeps the tables' numbers of entries, the routes' floors, and no two valid
restriction entries with the same base and k. -/
def Obligations.StepsKeepTheTables : Prop :=
  ∀ s u : State, Shaped s → RestrictionsDistinct s → step s = .next u → Shaped u ∧ RestrictionsDistinct u

/-- R125: every event that a command raises, with those that its routing gives rise to, has been routed by the
end of the step (log 10). R147: after every step each beacon shows what its channel's state and blocking flags
give. -/
def Obligations.StepsRouteEventsAndJudgeBeacons : Prop :=
  (∀ s u : State, s.raised = [] → step s = .next u → u.raised = []) ∧
  ∀ s u : State, BeaconsJudged s → step s = .next u → BeaconsJudged u
end

