-- ==== Sys2Proof/Laws/State.lean ====
section
/-! SUPPORT. One lemma per field per named update of State, so that no later proof unfolds a record update:
what a channel's or a conveyance's update leaves, and what the small updates of the operations leave. -/

namespace Sys2Proof.Machine

@[simp] theorem State.ch_a (s : State) : s.ch .a = s.chA := rfl
@[simp] theorem State.ch_b (s : State) : s.ch .b = s.chB := rfl
@[simp] theorem State.updCh_ch_same (s : State) (c : Channel) (f : Chan → Chan) :
    (s.updCh c f).ch c = f (s.ch c) := by cases c <;> rfl
@[simp] theorem State.updCh_ch_other (s : State) (c : Channel) (f : Chan → Chan) :
    (s.updCh c f).ch (otherChannel c) = s.ch (otherChannel c) := by cases c <;> rfl
theorem State.updCh_ch_of_ne (s : State) {c d : Channel} (f : Chan → Chan) (h : d ≠ c) :
    (s.updCh c f).ch d = s.ch d := by cases c <;> cases d <;> first | rfl | exact absurd rfl h
@[simp] theorem State.updCh_a_chA (s : State) (f : Chan → Chan) : (s.updCh .a f).chA = f s.chA := rfl
@[simp] theorem State.updCh_a_chB (s : State) (f : Chan → Chan) : (s.updCh .a f).chB = s.chB := rfl
@[simp] theorem State.updCh_b_chA (s : State) (f : Chan → Chan) : (s.updCh .b f).chA = s.chA := rfl
@[simp] theorem State.updCh_b_chB (s : State) (f : Chan → Chan) : (s.updCh .b f).chB = f s.chB := rfl
@[simp] theorem State.conv_cage (s : State) : s.conv .cage = s.chA.prim := rfl
@[simp] theorem State.conv_cwt (s : State) : s.conv .cwt = s.chA.cwt := rfl
@[simp] theorem State.conv_skip (s : State) : s.conv .skip = s.chB.prim := rfl
@[simp] theorem State.updConv_conv_same (s : State) (v : Conveyance) (f : Conv → Conv) :
    (s.updConv v f).conv v = f (s.conv v) := by cases v <;> rfl
theorem State.updConv_conv_of_ne (s : State) {v w : Conveyance} (f : Conv → Conv) (h : w ≠ v) :
    (s.updConv v f).conv w = s.conv w := by cases v <;> cases w <;> first | rfl | exact absurd rfl h
@[simp] theorem State.updCh_now (s : State) (c : Channel) (f : Chan → Chan) :
    (s.updCh c f).now = s.now := by cases c <;> rfl
@[simp] theorem State.updConv_now (s : State) (v : Conveyance) (f : Conv → Conv) :
    (s.updConv v f).now = s.now := by cases v <;> rfl
@[simp] theorem State.updCh_powerReset (s : State) (c : Channel) (f : Chan → Chan) :
    (s.updCh c f).powerReset = s.powerReset := by cases c <;> rfl
@[simp] theorem State.updConv_powerReset (s : State) (v : Conveyance) (f : Conv → Conv) :
    (s.updConv v f).powerReset = s.powerReset := by cases v <;> rfl
@[simp] theorem State.updCh_inputReset (s : State) (c : Channel) (f : Chan → Chan) :
    (s.updCh c f).inputReset = s.inputReset := by cases c <;> rfl
@[simp] theorem State.updConv_inputReset (s : State) (v : Conveyance) (f : Conv → Conv) :
    (s.updConv v f).inputReset = s.inputReset := by cases v <;> rfl
@[simp] theorem State.updCh_softReset (s : State) (c : Channel) (f : Chan → Chan) :
    (s.updCh c f).softReset = s.softReset := by cases c <;> rfl
@[simp] theorem State.updConv_softReset (s : State) (v : Conveyance) (f : Conv → Conv) :
    (s.updConv v f).softReset = s.softReset := by cases v <;> rfl
@[simp] theorem State.updCh_linkAddr (s : State) (c : Channel) (f : Chan → Chan) :
    (s.updCh c f).linkAddr = s.linkAddr := by cases c <;> rfl
@[simp] theorem State.updConv_linkAddr (s : State) (v : Conveyance) (f : Conv → Conv) :
    (s.updConv v f).linkAddr = s.linkAddr := by cases v <;> rfl
@[simp] theorem State.updCh_phase1 (s : State) (c : Channel) (f : Chan → Chan) :
    (s.updCh c f).phase1 = s.phase1 := by cases c <;> rfl
@[simp] theorem State.updConv_phase1 (s : State) (v : Conveyance) (f : Conv → Conv) :
    (s.updConv v f).phase1 = s.phase1 := by cases v <;> rfl
@[simp] theorem State.updCh_phase2 (s : State) (c : Channel) (f : Chan → Chan) :
    (s.updCh c f).phase2 = s.phase2 := by cases c <;> rfl
@[simp] theorem State.updConv_phase2 (s : State) (v : Conveyance) (f : Conv → Conv) :
    (s.updConv v f).phase2 = s.phase2 := by cases v <;> rfl
@[simp] theorem State.updCh_markFilters (s : State) (c : Channel) (f : Chan → Chan) :
    (s.updCh c f).markFilters = s.markFilters := by cases c <;> rfl
@[simp] theorem State.updConv_markFilters (s : State) (v : Conveyance) (f : Conv → Conv) :
    (s.updConv v f).markFilters = s.markFilters := by cases v <;> rfl
@[simp] theorem State.updCh_arms (s : State) (c : Channel) (f : Chan → Chan) :
    (s.updCh c f).arms = s.arms := by cases c <;> rfl
@[simp] theorem State.updConv_arms (s : State) (v : Conveyance) (f : Conv → Conv) :
    (s.updConv v f).arms = s.arms := by cases v <;> rfl
@[simp] theorem State.updCh_restrictions (s : State) (c : Channel) (f : Chan → Chan) :
    (s.updCh c f).restrictions = s.restrictions := by cases c <;> rfl
@[simp] theorem State.updConv_restrictions (s : State) (v : Conveyance) (f : Conv → Conv) :
    (s.updConv v f).restrictions = s.restrictions := by cases v <;> rfl
@[simp] theorem State.updCh_notices (s : State) (c : Channel) (f : Chan → Chan) :
    (s.updCh c f).notices = s.notices := by cases c <;> rfl
@[simp] theorem State.updConv_notices (s : State) (v : Conveyance) (f : Conv → Conv) :
    (s.updConv v f).notices = s.notices := by cases v <;> rfl
@[simp] theorem State.updCh_seq (s : State) (c : Channel) (f : Chan → Chan) :
    (s.updCh c f).seq = s.seq := by cases c <;> rfl
@[simp] theorem State.updConv_seq (s : State) (v : Conveyance) (f : Conv → Conv) :
    (s.updConv v f).seq = s.seq := by cases v <;> rfl
@[simp] theorem State.updCh_noticesLost (s : State) (c : Channel) (f : Chan → Chan) :
    (s.updCh c f).noticesLost = s.noticesLost := by cases c <;> rfl
@[simp] theorem State.updConv_noticesLost (s : State) (v : Conveyance) (f : Conv → Conv) :
    (s.updConv v f).noticesLost = s.noticesLost := by cases v <;> rfl
@[simp] theorem State.updCh_activeLoaded (s : State) (c : Channel) (f : Chan → Chan) :
    (s.updCh c f).activeLoaded = s.activeLoaded := by cases c <;> rfl
@[simp] theorem State.updConv_activeLoaded (s : State) (v : Conveyance) (f : Conv → Conv) :
    (s.updConv v f).activeLoaded = s.activeLoaded := by cases v <;> rfl
@[simp] theorem State.updCh_active (s : State) (c : Channel) (f : Chan → Chan) :
    (s.updCh c f).active = s.active := by cases c <;> rfl
@[simp] theorem State.updConv_active (s : State) (v : Conveyance) (f : Conv → Conv) :
    (s.updConv v f).active = s.active := by cases v <;> rfl
@[simp] theorem State.updCh_shadowState (s : State) (c : Channel) (f : Chan → Chan) :
    (s.updCh c f).shadowState = s.shadowState := by cases c <;> rfl
@[simp] theorem State.updConv_shadowState (s : State) (v : Conveyance) (f : Conv → Conv) :
    (s.updConv v f).shadowState = s.shadowState := by cases v <;> rfl
@[simp] theorem State.updCh_shadow (s : State) (c : Channel) (f : Chan → Chan) :
    (s.updCh c f).shadow = s.shadow := by cases c <;> rfl
@[simp] theorem State.updConv_shadow (s : State) (v : Conveyance) (f : Conv → Conv) :
    (s.updConv v f).shadow = s.shadow := by cases v <;> rfl
@[simp] theorem State.updCh_editLatch (s : State) (c : Channel) (f : Chan → Chan) :
    (s.updCh c f).editLatch = s.editLatch := by cases c <;> rfl
@[simp] theorem State.updConv_editLatch (s : State) (v : Conveyance) (f : Conv → Conv) :
    (s.updConv v f).editLatch = s.editLatch := by cases v <;> rfl
@[simp] theorem State.updCh_pendingCommit (s : State) (c : Channel) (f : Chan → Chan) :
    (s.updCh c f).pendingCommit = s.pendingCommit := by cases c <;> rfl
@[simp] theorem State.updConv_pendingCommit (s : State) (v : Conveyance) (f : Conv → Conv) :
    (s.updConv v f).pendingCommit = s.pendingCommit := by cases v <;> rfl
@[simp] theorem State.updCh_checkJob (s : State) (c : Channel) (f : Chan → Chan) :
    (s.updCh c f).checkJob = s.checkJob := by cases c <;> rfl
@[simp] theorem State.updConv_checkJob (s : State) (v : Conveyance) (f : Conv → Conv) :
    (s.updConv v f).checkJob = s.checkJob := by cases v <;> rfl
@[simp] theorem State.updCh_masterClosed (s : State) (c : Channel) (f : Chan → Chan) :
    (s.updCh c f).masterClosed = s.masterClosed := by cases c <;> rfl
@[simp] theorem State.updConv_masterClosed (s : State) (v : Conveyance) (f : Conv → Conv) :
    (s.updConv v f).masterClosed = s.masterClosed := by cases v <;> rfl
@[simp] theorem State.updCh_holdOn (s : State) (c : Channel) (f : Chan → Chan) :
    (s.updCh c f).holdOn = s.holdOn := by cases c <;> rfl
@[simp] theorem State.updConv_holdOn (s : State) (v : Conveyance) (f : Conv → Conv) :
    (s.updConv v f).holdOn = s.holdOn := by cases v <;> rfl
@[simp] theorem State.updCh_holdHigh (s : State) (c : Channel) (f : Chan → Chan) :
    (s.updCh c f).holdHigh = s.holdHigh := by cases c <;> rfl
@[simp] theorem State.updConv_holdHigh (s : State) (v : Conveyance) (f : Conv → Conv) :
    (s.updConv v f).holdHigh = s.holdHigh := by cases v <;> rfl
@[simp] theorem State.updCh_holdSince (s : State) (c : Channel) (f : Chan → Chan) :
    (s.updCh c f).holdSince = s.holdSince := by cases c <;> rfl
@[simp] theorem State.updConv_holdSince (s : State) (v : Conveyance) (f : Conv → Conv) :
    (s.updConv v f).holdSince = s.holdSince := by cases v <;> rfl
@[simp] theorem State.updCh_flashOn (s : State) (c : Channel) (f : Chan → Chan) :
    (s.updCh c f).flashOn = s.flashOn := by cases c <;> rfl
@[simp] theorem State.updConv_flashOn (s : State) (v : Conveyance) (f : Conv → Conv) :
    (s.updConv v f).flashOn = s.flashOn := by cases v <;> rfl
@[simp] theorem State.updCh_flashLit (s : State) (c : Channel) (f : Chan → Chan) :
    (s.updCh c f).flashLit = s.flashLit := by cases c <;> rfl
@[simp] theorem State.updConv_flashLit (s : State) (v : Conveyance) (f : Conv → Conv) :
    (s.updConv v f).flashLit = s.flashLit := by cases v <;> rfl
@[simp] theorem State.updCh_flashSince (s : State) (c : Channel) (f : Chan → Chan) :
    (s.updCh c f).flashSince = s.flashSince := by cases c <;> rfl
@[simp] theorem State.updConv_flashSince (s : State) (v : Conveyance) (f : Conv → Conv) :
    (s.updConv v f).flashSince = s.flashSince := by cases v <;> rfl
@[simp] theorem State.updCh_requests (s : State) (c : Channel) (f : Chan → Chan) :
    (s.updCh c f).requests = s.requests := by cases c <;> rfl
@[simp] theorem State.updConv_requests (s : State) (v : Conveyance) (f : Conv → Conv) :
    (s.updConv v f).requests = s.requests := by cases v <;> rfl
@[simp] theorem State.updCh_replies (s : State) (c : Channel) (f : Chan → Chan) :
    (s.updCh c f).replies = s.replies := by cases c <;> rfl
@[simp] theorem State.updConv_replies (s : State) (v : Conveyance) (f : Conv → Conv) :
    (s.updConv v f).replies = s.replies := by cases v <;> rfl
@[simp] theorem State.updCh_checkReply (s : State) (c : Channel) (f : Chan → Chan) :
    (s.updCh c f).checkReply = s.checkReply := by cases c <;> rfl
@[simp] theorem State.updConv_checkReply (s : State) (v : Conveyance) (f : Conv → Conv) :
    (s.updConv v f).checkReply = s.checkReply := by cases v <;> rfl
@[simp] theorem State.updCh_fbkOut (s : State) (c : Channel) (f : Chan → Chan) :
    (s.updCh c f).fbkOut = s.fbkOut := by cases c <;> rfl
@[simp] theorem State.updConv_fbkOut (s : State) (v : Conveyance) (f : Conv → Conv) :
    (s.updConv v f).fbkOut = s.fbkOut := by cases v <;> rfl
@[simp] theorem State.updCh_passUp (s : State) (c : Channel) (f : Chan → Chan) :
    (s.updCh c f).passUp = s.passUp := by cases c <;> rfl
@[simp] theorem State.updConv_passUp (s : State) (v : Conveyance) (f : Conv → Conv) :
    (s.updConv v f).passUp = s.passUp := by cases v <;> rfl
@[simp] theorem State.updCh_passDown (s : State) (c : Channel) (f : Chan → Chan) :
    (s.updCh c f).passDown = s.passDown := by cases c <;> rfl
@[simp] theorem State.updConv_passDown (s : State) (v : Conveyance) (f : Conv → Conv) :
    (s.updConv v f).passDown = s.passDown := by cases v <;> rfl
@[simp] theorem State.updCh_refQueue (s : State) (c : Channel) (f : Chan → Chan) :
    (s.updCh c f).refQueue = s.refQueue := by cases c <;> rfl
@[simp] theorem State.updConv_refQueue (s : State) (v : Conveyance) (f : Conv → Conv) :
    (s.updConv v f).refQueue = s.refQueue := by cases v <;> rfl
@[simp] theorem State.updCh_upTx (s : State) (c : Channel) (f : Chan → Chan) :
    (s.updCh c f).upTx = s.upTx := by cases c <;> rfl
@[simp] theorem State.updConv_upTx (s : State) (v : Conveyance) (f : Conv → Conv) :
    (s.updConv v f).upTx = s.upTx := by cases v <;> rfl
@[simp] theorem State.updCh_downTx (s : State) (c : Channel) (f : Chan → Chan) :
    (s.updCh c f).downTx = s.downTx := by cases c <;> rfl
@[simp] theorem State.updConv_downTx (s : State) (v : Conveyance) (f : Conv → Conv) :
    (s.updConv v f).downTx = s.downTx := by cases v <;> rfl
@[simp] theorem State.updCh_errUp (s : State) (c : Channel) (f : Chan → Chan) :
    (s.updCh c f).errUp = s.errUp := by cases c <;> rfl
@[simp] theorem State.updConv_errUp (s : State) (v : Conveyance) (f : Conv → Conv) :
    (s.updConv v f).errUp = s.errUp := by cases v <;> rfl
@[simp] theorem State.updCh_errDown (s : State) (c : Channel) (f : Chan → Chan) :
    (s.updCh c f).errDown = s.errDown := by cases c <;> rfl
@[simp] theorem State.updConv_errDown (s : State) (v : Conveyance) (f : Conv → Conv) :
    (s.updConv v f).errDown = s.errDown := by cases v <;> rfl
@[simp] theorem State.updCh_ovUp (s : State) (c : Channel) (f : Chan → Chan) :
    (s.updCh c f).ovUp = s.ovUp := by cases c <;> rfl
@[simp] theorem State.updConv_ovUp (s : State) (v : Conveyance) (f : Conv → Conv) :
    (s.updConv v f).ovUp = s.ovUp := by cases v <;> rfl
@[simp] theorem State.updCh_ovDown (s : State) (c : Channel) (f : Chan → Chan) :
    (s.updCh c f).ovDown = s.ovDown := by cases c <;> rfl
@[simp] theorem State.updConv_ovDown (s : State) (v : Conveyance) (f : Conv → Conv) :
    (s.updConv v f).ovDown = s.ovDown := by cases v <;> rfl
@[simp] theorem State.updCh_raised (s : State) (c : Channel) (f : Chan → Chan) :
    (s.updCh c f).raised = s.raised := by cases c <;> rfl
@[simp] theorem State.updConv_raised (s : State) (v : Conveyance) (f : Conv → Conv) :
    (s.updConv v f).raised = s.raised := by cases v <;> rfl
@[simp] theorem State.updCh_choices (s : State) (c : Channel) (f : Chan → Chan) :
    (s.updCh c f).choices = s.choices := by cases c <;> rfl
@[simp] theorem State.updConv_choices (s : State) (v : Conveyance) (f : Conv → Conv) :
    (s.updConv v f).choices = s.choices := by cases v <;> rfl
@[simp] theorem State.updCh_pending (s : State) (c : Channel) (f : Chan → Chan) :
    (s.updCh c f).pending = s.pending := by cases c <;> rfl
@[simp] theorem State.updConv_pending (s : State) (v : Conveyance) (f : Conv → Conv) :
    (s.updConv v f).pending = s.pending := by cases v <;> rfl
@[simp] theorem State.updCh_params (s : State) (c d : Channel) (f : Chan → Chan) :
    (s.updCh c f).params d = s.params d := by cases c <;> rfl
@[simp] theorem State.updCh_inReset (s : State) (c : Channel) (f : Chan → Chan) :
    (s.updCh c f).inReset = s.inReset := by cases c <;> rfl
@[simp] theorem State.enqueue_raised (s : State) (r : Raised) : (s.enqueue r).raised = s.raised ++ [r] := rfl
@[simp] theorem State.enqueue_ch (s : State) (r : Raised) (c : Channel) : (s.enqueue r).ch c = s.ch c := by
  cases c <;> rfl
@[simp] theorem State.advance_ch (s : State) (t : Micros) (c : Channel) : (s.advance t).ch c = s.ch c := by
  cases c <;> rfl
@[simp] theorem State.advance_inReset (s : State) (t : Micros) : (s.advance t).inReset = s.inReset := rfl
@[simp] theorem State.advance_now (s : State) (t : Micros) : (s.advance t).now = max s.now t := rfl
@[simp] theorem State.advance_params (s : State) (t : Micros) (c : Channel) :
    (s.advance t).params c = s.params c := rfl
@[simp] theorem State.advance_powerReset (s : State) (t : Micros) : (s.advance t).powerReset = s.powerReset := rfl
@[simp] theorem State.advance_inputReset (s : State) (t : Micros) : (s.advance t).inputReset = s.inputReset := rfl
@[simp] theorem State.advance_softReset (s : State) (t : Micros) : (s.advance t).softReset = s.softReset := rfl
@[simp] theorem State.advance_linkAddr (s : State) (t : Micros) : (s.advance t).linkAddr = s.linkAddr := rfl
@[simp] theorem State.advance_phase1 (s : State) (t : Micros) : (s.advance t).phase1 = s.phase1 := rfl
@[simp] theorem State.advance_phase2 (s : State) (t : Micros) : (s.advance t).phase2 = s.phase2 := rfl
@[simp] theorem State.advance_markFilters (s : State) (t : Micros) : (s.advance t).markFilters = s.markFilters := rfl
@[simp] theorem State.advance_chA (s : State) (t : Micros) : (s.advance t).chA = s.chA := rfl
@[simp] theorem State.advance_chB (s : State) (t : Micros) : (s.advance t).chB = s.chB := rfl
@[simp] theorem State.advance_arms (s : State) (t : Micros) : (s.advance t).arms = s.arms := rfl
@[simp] theorem State.advance_restrictions (s : State) (t : Micros) : (s.advance t).restrictions = s.restrictions := rfl
@[simp] theorem State.advance_notices (s : State) (t : Micros) : (s.advance t).notices = s.notices := rfl
@[simp] theorem State.advance_seq (s : State) (t : Micros) : (s.advance t).seq = s.seq := rfl
@[simp] theorem State.advance_noticesLost (s : State) (t : Micros) : (s.advance t).noticesLost = s.noticesLost := rfl
@[simp] theorem State.advance_activeLoaded (s : State) (t : Micros) : (s.advance t).activeLoaded = s.activeLoaded := rfl
@[simp] theorem State.advance_active (s : State) (t : Micros) : (s.advance t).active = s.active := rfl
@[simp] theorem State.advance_shadowState (s : State) (t : Micros) : (s.advance t).shadowState = s.shadowState := rfl
@[simp] theorem State.advance_shadow (s : State) (t : Micros) : (s.advance t).shadow = s.shadow := rfl
@[simp] theorem State.advance_editLatch (s : State) (t : Micros) : (s.advance t).editLatch = s.editLatch := rfl
@[simp] theorem State.advance_pendingCommit (s : State) (t : Micros) : (s.advance t).pendingCommit = s.pendingCommit := rfl
@[simp] theorem State.advance_checkJob (s : State) (t : Micros) : (s.advance t).checkJob = s.checkJob := rfl
@[simp] theorem State.advance_masterClosed (s : State) (t : Micros) : (s.advance t).masterClosed = s.masterClosed := rfl
@[simp] theorem State.advance_holdOn (s : State) (t : Micros) : (s.advance t).holdOn = s.holdOn := rfl
@[simp] theorem State.advance_holdHigh (s : State) (t : Micros) : (s.advance t).holdHigh = s.holdHigh := rfl
@[simp] theorem State.advance_holdSince (s : State) (t : Micros) : (s.advance t).holdSince = s.holdSince := rfl
@[simp] theorem State.advance_flashOn (s : State) (t : Micros) : (s.advance t).flashOn = s.flashOn := rfl
@[simp] theorem State.advance_flashLit (s : State) (t : Micros) : (s.advance t).flashLit = s.flashLit := rfl
@[simp] theorem State.advance_flashSince (s : State) (t : Micros) : (s.advance t).flashSince = s.flashSince := rfl
@[simp] theorem State.advance_requests (s : State) (t : Micros) : (s.advance t).requests = s.requests := rfl
@[simp] theorem State.advance_replies (s : State) (t : Micros) : (s.advance t).replies = s.replies := rfl
@[simp] theorem State.advance_checkReply (s : State) (t : Micros) : (s.advance t).checkReply = s.checkReply := rfl
@[simp] theorem State.advance_fbkOut (s : State) (t : Micros) : (s.advance t).fbkOut = s.fbkOut := rfl
@[simp] theorem State.advance_passUp (s : State) (t : Micros) : (s.advance t).passUp = s.passUp := rfl
@[simp] theorem State.advance_passDown (s : State) (t : Micros) : (s.advance t).passDown = s.passDown := rfl
@[simp] theorem State.advance_refQueue (s : State) (t : Micros) : (s.advance t).refQueue = s.refQueue := rfl
@[simp] theorem State.advance_upTx (s : State) (t : Micros) : (s.advance t).upTx = s.upTx := rfl
@[simp] theorem State.advance_downTx (s : State) (t : Micros) : (s.advance t).downTx = s.downTx := rfl
@[simp] theorem State.advance_errUp (s : State) (t : Micros) : (s.advance t).errUp = s.errUp := rfl
@[simp] theorem State.advance_errDown (s : State) (t : Micros) : (s.advance t).errDown = s.errDown := rfl
@[simp] theorem State.advance_ovUp (s : State) (t : Micros) : (s.advance t).ovUp = s.ovUp := rfl
@[simp] theorem State.advance_ovDown (s : State) (t : Micros) : (s.advance t).ovDown = s.ovDown := rfl
@[simp] theorem State.advance_raised (s : State) (t : Micros) : (s.advance t).raised = s.raised := rfl
@[simp] theorem State.advance_choices (s : State) (t : Micros) : (s.advance t).choices = s.choices := rfl
@[simp] theorem State.advance_pending (s : State) (t : Micros) : (s.advance t).pending = s.pending := rfl
@[simp] theorem State.settle_now (s : State) : s.settle.now = s.now := rfl
@[simp] theorem State.settle_powerReset (s : State) : s.settle.powerReset = s.powerReset := rfl
@[simp] theorem State.settle_inputReset (s : State) : s.settle.inputReset = s.inputReset := rfl
@[simp] theorem State.settle_softReset (s : State) : s.settle.softReset = s.softReset := rfl
@[simp] theorem State.settle_linkAddr (s : State) : s.settle.linkAddr = s.linkAddr := rfl
@[simp] theorem State.settle_phase1 (s : State) : s.settle.phase1 = s.phase1 := rfl
@[simp] theorem State.settle_phase2 (s : State) : s.settle.phase2 = s.phase2 := rfl
@[simp] theorem State.settle_markFilters (s : State) : s.settle.markFilters = s.markFilters := rfl
@[simp] theorem State.settle_arms (s : State) : s.settle.arms = s.arms := rfl
@[simp] theorem State.settle_restrictions (s : State) : s.settle.restrictions = s.restrictions := rfl
@[simp] theorem State.settle_notices (s : State) : s.settle.notices = s.notices := rfl
@[simp] theorem State.settle_seq (s : State) : s.settle.seq = s.seq := rfl
@[simp] theorem State.settle_noticesLost (s : State) : s.settle.noticesLost = s.noticesLost := rfl
@[simp] theorem State.settle_activeLoaded (s : State) : s.settle.activeLoaded = s.activeLoaded := rfl
@[simp] theorem State.settle_active (s : State) : s.settle.active = s.active := rfl
@[simp] theorem State.settle_shadowState (s : State) : s.settle.shadowState = s.shadowState := rfl
@[simp] theorem State.settle_shadow (s : State) : s.settle.shadow = s.shadow := rfl
@[simp] theorem State.settle_editLatch (s : State) : s.settle.editLatch = s.editLatch := rfl
@[simp] theorem State.settle_pendingCommit (s : State) : s.settle.pendingCommit = s.pendingCommit := rfl
@[simp] theorem State.settle_checkJob (s : State) : s.settle.checkJob = s.checkJob := rfl
@[simp] theorem State.settle_masterClosed (s : State) : s.settle.masterClosed = s.masterClosed := rfl
@[simp] theorem State.settle_holdOn (s : State) : s.settle.holdOn = s.holdOn := rfl
@[simp] theorem State.settle_holdHigh (s : State) : s.settle.holdHigh = s.holdHigh := rfl
@[simp] theorem State.settle_holdSince (s : State) : s.settle.holdSince = s.holdSince := rfl
@[simp] theorem State.settle_flashOn (s : State) : s.settle.flashOn = s.flashOn := rfl
@[simp] theorem State.settle_flashLit (s : State) : s.settle.flashLit = s.flashLit := rfl
@[simp] theorem State.settle_flashSince (s : State) : s.settle.flashSince = s.flashSince := rfl
@[simp] theorem State.settle_requests (s : State) : s.settle.requests = s.requests := rfl
@[simp] theorem State.settle_replies (s : State) : s.settle.replies = s.replies := rfl
@[simp] theorem State.settle_checkReply (s : State) : s.settle.checkReply = s.checkReply := rfl
@[simp] theorem State.settle_fbkOut (s : State) : s.settle.fbkOut = s.fbkOut := rfl
@[simp] theorem State.settle_passUp (s : State) : s.settle.passUp = s.passUp := rfl
@[simp] theorem State.settle_passDown (s : State) : s.settle.passDown = s.passDown := rfl
@[simp] theorem State.settle_refQueue (s : State) : s.settle.refQueue = s.refQueue := rfl
@[simp] theorem State.settle_upTx (s : State) : s.settle.upTx = s.upTx := rfl
@[simp] theorem State.settle_downTx (s : State) : s.settle.downTx = s.downTx := rfl
@[simp] theorem State.settle_errUp (s : State) : s.settle.errUp = s.errUp := rfl
@[simp] theorem State.settle_errDown (s : State) : s.settle.errDown = s.errDown := rfl
@[simp] theorem State.settle_ovUp (s : State) : s.settle.ovUp = s.ovUp := rfl
@[simp] theorem State.settle_ovDown (s : State) : s.settle.ovDown = s.ovDown := rfl
@[simp] theorem State.settle_raised (s : State) : s.settle.raised = s.raised := rfl
@[simp] theorem State.settle_choices (s : State) : s.settle.choices = s.choices := rfl
@[simp] theorem State.settle_pending (s : State) : s.settle.pending = s.pending := rfl
@[simp] theorem State.settle_ch (s : State) (c : Channel) :
    s.settle.ch c = { s.ch c with beacon := s.beaconFor c } := by cases c <;> rfl
@[simp] theorem State.settle_inReset (s : State) : s.settle.inReset = s.inReset := rfl

end Sys2Proof.Machine
end

