-- ==== Sys2Proof/Laws/Command.lean ====
section
/-! SUPPORT. What a command does once it is out of reset, whatever its own effect: the beacons are judged, and
where nothing they show has changed the judgement changes nothing. -/

namespace Sys2Proof.Machine

/-- What the beacons are judged from, unchanged (R147). -/
structure SameLights (s u : State) : Prop where
  active : u.active = s.active
  stateA : u.chA.state = s.chA.state
  stateB : u.chB.state = s.chB.state
  flagsA : u.chA.flags = s.chA.flags
  flagsB : u.chB.flags = s.chB.flags

theorem blocks_congr {x y : Chan} (h : y.flags = x.flags) (b : Bank) (c own : Channel) (k : EvClass) :
    blocks b c own y k = blocks b c own x k := by
  funext src
  simp only [blocks, Chan.flag, h]

/-- The blocking flags depend on the active bank and the flags alone (R104). -/
theorem blockedBy_congr {s u : State} (ha : u.active = s.active) (hA : u.chA.flags = s.chA.flags)
    (hB : u.chB.flags = s.chB.flags) (c : Channel) (k : EvClass) : u.blockedBy c k = s.blockedBy c k := by
  cases c <;>
    simp only [State.blockedBy, State.ch, otherChannel, ha, blocks_congr hA, blocks_congr hB]

theorem beaconFor_congr {s u : State} (h : SameLights s u) (c : Channel) :
    u.beaconFor c = s.beaconFor c := by
  have hb := blockedBy_congr h.active h.flagsA h.flagsB c .stop
  cases c <;> simp only [State.beaconFor, State.ch, State.hasBlocking, h.stateA, h.stateB, hb] <;> rfl

theorem BeaconsJudged.congr {s u : State} (h : BeaconsJudged s) (k : SameLights s u)
    (hA : u.chA.beacon = s.chA.beacon) (hB : u.chB.beacon = s.chB.beacon) : BeaconsJudged u where
  beaconA := by rw [hA, h.beaconA, beaconFor_congr k]
  beaconB := by rw [hB, h.beaconB, beaconFor_congr k]

/-- Judged beacons are left as they are (R147). -/
theorem settle_eq {s : State} (h : BeaconsJudged s) : s.settle = s := by
  obtain ⟨hA, hB⟩ := h
  unfold State.settle State.judgeBeacons
  simp only [State.updCh]
  rw [← hA, ← hB]

/-- The judgement of the beacons changes the beacons alone. -/
theorem settle_same (s : State) : SameLights s s.settle := by constructor <;> rfl

/-- Every state a command leaves shows the beacons R147 gives. -/
theorem settle_judged (s : State) : BeaconsJudged s.settle := by
  constructor <;> (rw [beaconFor_congr (settle_same s)]; rfl)

/-- A command that acts out of reset, in a running part: its effect, then the beacons' judgement. -/
theorem outOfReset_eq (t : Micros) {s : State} (h : s.inReset = false) (f : State → State) :
    outOfReset t s f = .next (f (s.advance t)).settle := by
  simp only [outOfReset, State.advance_inReset, h, Bool.false_eq_true, if_false]

/-- An effect that changes nothing the beacons show is the whole outcome. -/
theorem outOfReset_quiet (t : Micros) {s u : State} {f : State → State} (h : Running s)
    (hu : f (s.advance t) = u) (k : SameLights s u) (hA : u.chA.beacon = s.chA.beacon)
    (hB : u.chB.beacon = s.chB.beacon) : outOfReset t s f = .next u := by
  rw [outOfReset_eq t h.outOfReset, hu, settle_eq (h.beacons.congr k hA hB)]

theorem atAnyTime_quiet (t : Micros) {s u : State} {f : State → State} (h : BeaconsJudged s)
    (hu : f (s.advance t) = u) (k : SameLights s u) (hA : u.chA.beacon = s.chA.beacon)
    (hB : u.chB.beacon = s.chB.beacon) : atAnyTime t s f = .next u := by
  rw [atAnyTime, hu, settle_eq (h.congr k hA hB)]

/-- The engine executes the head of the queue where a reply place is free and the head decodes to the
command's request (R175). -/
theorem engine_eq {s : State} {q : Request} {rest : List Request} {r : Req}
    {f : Req → Option (Request → State → State)} {g : Request → State → State}
    (h : RequestReady s q rest r) (t : Micros) (hf : f r = some g) :
    (s.advance t).engine f = g q { s.advance t with requests := rest } := by
  have h1 : (s.advance t).headRequest = some q := by
    simp only [State.headRequest, State.advance, h.head, h.place, if_true, List.head?_cons]
  unfold State.engine
  rw [h1]
  dsimp only
  rw [h.decodes]
  dsimp only
  rw [hf]
  simp only [State.takeRequest, State.advance, h.head, List.drop_one, List.tail_cons]

/-- A request that only answers leaves exactly the state with its reply waiting. -/
theorem engine_answered (t : Micros) {s : State} {q : Request} {rest : List Request} {r : Req}
    {f : Req → Option (Request → State → State)} {g : Request → State → State} {st : Status}
    {data : List Byte} (h : RequestReady s q rest r) (hf : f r = some g)
    (hg : ∀ x : State, g q x = x.reply q st (data)) :
    outOfReset t s (State.engine · f) = .next (s.answered t q rest st data) :=
  outOfReset_quiet t h.running (by rw [engine_eq h t hf, hg]; rfl) (by constructor <;> rfl) rfl rfl

end Sys2Proof.Machine
end

