-- ==== Sys2Proof/Laws/Frame.lean ====
section
/-! SUPPORT. What the routing of events leaves alone: one lemma for each operation on the way from a raised
event to a changed channel, so that a command's own effect can be read through whatever it raises. -/

namespace Sys2Proof.Machine

theorem ChanKept.refl (x : Chan) : ChanKept x x := by constructor <;> rfl

theorem ChanKept.trans {x y z : Chan} (h : ChanKept x y) (k : ChanKept y z) : ChanKept x z where
  plane := k.plane.trans h.plane
  permits := k.permits.trans h.permits
  underway := k.underway.trans h.underway
  place := k.place.trans h.place
  cwt := k.cwt.trans h.cwt
  groups := k.groups.trans h.groups
  factor := k.factor.trans h.factor
  lastAccepted := k.lastAccepted.trans h.lastAccepted
  lastToggle := k.lastToggle.trans h.lastToggle
  lastControl := k.lastControl.trans h.lastControl
  lastController := k.lastController.trans h.lastController
  lastTxToggle := k.lastTxToggle.trans h.lastTxToggle
  linkLoss := k.linkLoss.trans h.linkLoss
  lossCount := k.lossCount.trans h.lossCount
  readback := k.readback.trans h.readback
  stuck := k.stuck.trans h.stuck
  stuckWindow := k.stuckWindow.trans h.stuckWindow
  prim := k.prim.trans h.prim
  ctr := k.ctr.trans h.ctr

theorem Kept.refl (s : State) : Kept s s := by
  constructor <;> first | rfl | exact ChanKept.refl _

theorem Kept.trans {s t u : State} (h : Kept s t) (k : Kept t u) : Kept s u where
  now := k.now.trans h.now
  powerReset := k.powerReset.trans h.powerReset
  inputReset := k.inputReset.trans h.inputReset
  softReset := k.softReset.trans h.softReset
  linkAddr := k.linkAddr.trans h.linkAddr
  phase1 := k.phase1.trans h.phase1
  phase2 := k.phase2.trans h.phase2
  markFilters := k.markFilters.trans h.markFilters
  restrictions := k.restrictions.trans h.restrictions
  activeLoaded := k.activeLoaded.trans h.activeLoaded
  active := k.active.trans h.active
  shadowState := k.shadowState.trans h.shadowState
  shadow := k.shadow.trans h.shadow
  editLatch := k.editLatch.trans h.editLatch
  pendingCommit := k.pendingCommit.trans h.pendingCommit
  checkJob := k.checkJob.trans h.checkJob
  masterClosed := k.masterClosed.trans h.masterClosed
  holdOn := k.holdOn.trans h.holdOn
  holdHigh := k.holdHigh.trans h.holdHigh
  holdSince := k.holdSince.trans h.holdSince
  flashOn := k.flashOn.trans h.flashOn
  flashLit := k.flashLit.trans h.flashLit
  flashSince := k.flashSince.trans h.flashSince
  requests := k.requests.trans h.requests
  replies := k.replies.trans h.replies
  checkReply := k.checkReply.trans h.checkReply
  fbkOut := k.fbkOut.trans h.fbkOut
  passUp := k.passUp.trans h.passUp
  passDown := k.passDown.trans h.passDown
  upTx := k.upTx.trans h.upTx
  downTx := k.downTx.trans h.downTx
  errUp := k.errUp.trans h.errUp
  errDown := k.errDown.trans h.errDown
  ovUp := k.ovUp.trans h.ovUp
  pending := k.pending.trans h.pending
  chA := h.chA.trans k.chA
  chB := h.chB.trans k.chB

theorem Kept.ch {s t : State} (h : Kept s t) (c : Channel) : ChanKept (s.ch c) (t.ch c) := by
  cases c
  · exact h.chA
  · exact h.chB

theorem Kept.params {s t : State} (h : Kept s t) (c : Channel) : t.params c = s.params c := by
  simp only [State.params, h.active]

theorem Kept.inReset {s t : State} (h : Kept s t) : t.inReset = s.inReset := by
  simp only [State.inReset, h.powerReset, h.inputReset, h.softReset]

/-- A channel's update keeps what it keeps of the channel. -/
theorem Kept.updCh (s : State) (c : Channel) {f : Chan → Chan} (h : ∀ x, ChanKept x (f x)) :
    Kept s (s.updCh c f) := by
  cases c <;> constructor <;> first | rfl | exact h _ | exact ChanKept.refl _

theorem Kept.when (s : State) (b : Bool) {f : State → State} (h : Kept s (f s)) : Kept s (s.when b f) := by
  cases b
  · exact Kept.refl s
  · exact h

theorem enqueue_kept (s : State) (r : Raised) : Kept s (s.enqueue r) := by
  constructor <;> first | rfl | exact ChanKept.refl _

theorem fall_kept (s : State) (c : Channel) (src : Source) : Kept s (s.fall c src) :=
  Kept.updCh s c fun x => by constructor <;> rfl

theorem condition_kept (s : State) (old new : Bool) (r : Raised) : Kept s (s.condition old new r) := by
  unfold State.condition
  split
  · exact enqueue_kept s r
  · split
    · exact fall_kept s _ _
    · exact Kept.refl s

theorem joinRef_kept (s : State) (r : RefItem) : Kept s (s.joinRef r) := by
  unfold State.joinRef
  split <;> constructor <;> first | rfl | exact ChanKept.refl _

theorem setForwarded_kept (s : State) (c : Channel) (v : Speed) : Kept s (s.setForwarded c v) :=
  Kept.updCh s c fun x => by constructor <;> rfl

theorem originate_kept (s : State) (c : Channel) (v : Speed) : Kept s (s.originate c v) :=
  (setForwarded_kept s c v).trans (joinRef_kept _ _)

theorem zeroReference_kept (s : State) (c : Channel) : Kept s (s.zeroReference c) := by
  unfold State.zeroReference
  split
  · exact Kept.refl s
  · exact originate_kept s c 0

theorem substitute_kept (s : State) (c : Channel) : Kept s (s.substitute c) :=
  (originate_kept s c _).trans (Kept.updCh _ c fun x => by constructor <;> rfl)

theorem endSubstitution_kept (s : State) (c : Channel) : Kept s (s.endSubstitution c) :=
  Kept.updCh s c fun x => by constructor <;> rfl

theorem restartGap_kept (s : State) (c : Channel) : Kept s (s.restartGap c) :=
  Kept.updCh s c fun x => by
    dsimp only
    split
    · constructor <;> rfl
    · split
      · exact ChanKept.refl x
      · constructor <;> rfl

/-- What the reference gap timer does at a change of state: left for its expiry, or restarted (R90, R94). -/
theorem rearmGap_cases (s : State) (c : Channel) (old new : ChanState) :
    (expiryOutlasts old new = true ∧ s.gapRanOut c = true ∧ s.rearmGap c old new = s) ∨
      s.rearmGap c old new = s.restartGap c := by
  unfold State.rearmGap
  split
  · next h => exact .inl ⟨(Bool.and_eq_true _ _ ▸ h).1, (Bool.and_eq_true _ _ ▸ h).2, rfl⟩
  · exact .inr rfl

theorem rearmGap_kept (s : State) (c : Channel) (old new : ChanState) :
    Kept s (s.rearmGap c old new) := by
  unfold State.rearmGap
  split
  · exact Kept.refl s
  · exact restartGap_kept s c

theorem handReference_kept (s : State) (c : Channel) {old new : ChanState} (h0 : old ≠ .idle)
    (h1 : new ≠ .run) : Kept s (s.handReference c old new) := by
  unfold State.handReference
  simp only [h0, h1, decide_false, Bool.and_false]
  exact ((Kept.when _ _ (zeroReference_kept _ c)).trans
    (Kept.when _ _ (endSubstitution_kept _ c))).trans (rearmGap_kept _ c _ _)

theorem setLow0_kept (s : State) (c : Channel) (on : Bool) : Kept s (s.setLow0 c on) :=
  (Kept.updCh s c fun x => by constructor <;> rfl).trans (condition_kept _ _ _ _)

theorem setLow1_kept (s : State) (c : Channel) (on : Bool) : Kept s (s.setLow1 c on) :=
  (Kept.updCh s c fun x => by constructor <;> rfl).trans (condition_kept _ _ _ _)

theorem judgeAlarms_kept (s : State) (c : Channel) : Kept s (s.judgeAlarms c) :=
  (setLow0_kept s c _).trans (setLow1_kept _ c _)

theorem judgePermits_kept (s : State) (c : Channel) : Kept s (s.judgePermits c) :=
  (Kept.updCh s c fun x => by constructor <;> rfl).trans (condition_kept _ _ _ _)

theorem judgeDeep_kept (s : State) (c : Channel) : Kept s (s.judgeDeep c) :=
  (Kept.updCh s c fun x => by constructor <;> rfl).trans (condition_kept _ _ _ _)

theorem judgeHigh_kept (s : State) (c : Channel) : Kept s (s.judgeHigh c) :=
  (Kept.updCh s c fun x => by constructor <;> rfl).trans (condition_kept _ _ _ _)

theorem judgeOverwind_kept (s : State) (c : Channel) : Kept s (s.judgeOverwind c) :=
  (judgeDeep_kept s c).trans (judgeHigh_kept _ c)

theorem ceilingsToTarget_kept (s : State) (c : Channel) : Kept s (s.ceilingsToTarget c) :=
  Kept.updCh s c fun x => by constructor <;> rfl

theorem enterBackout_kept (s : State) (c : Channel) : Kept s (s.enterBackout c) :=
  ((Kept.updCh s c fun x => by constructor <;> rfl).trans (ceilingsToTarget_kept _ c)).trans
    (judgeOverwind_kept _ c)

theorem leaveBackout_kept (s : State) (c : Channel) : Kept s (s.leaveBackout c) :=
  (Kept.updCh s c fun x => by constructor <;> rfl).trans (judgeOverwind_kept _ c)

theorem disarm_kept (s : State) (c : Channel) : Kept s (s.disarm c) := by
  constructor <;> first | rfl | exact ChanKept.refl _

theorem handEnvelope_kept (s : State) (c : Channel) (old new : ChanState) :
    Kept s (s.handEnvelope c old new) := by
  unfold State.handEnvelope
  exact (((((Kept.when _ _ (leaveBackout_kept _ c)).trans
    (Kept.when _ _ (ceilingsToTarget_kept _ c))).trans (Kept.when _ _ (enterBackout_kept _ c))).trans
    (Kept.when _ _ (judgeAlarms_kept _ c))).trans (Kept.when _ _ (judgePermits_kept _ c))).trans
    (Kept.when _ _ (disarm_kept _ c))

theorem command_kept (l : TripLine) (closed : Bool) (now window : Micros) :
    (l.command closed now window).readback = l.readback ∧ (l.command closed now window).stuck = l.stuck
      ∧ (l.command closed now window).stuckWindow = l.stuckWindow := by
  unfold TripLine.command
  dsimp only
  split <;> exact ⟨rfl, rfl, rfl⟩

theorem commandLine_kept (s : State) (c : Channel) : Kept s (s.commandLine c) := by
  unfold State.commandLine
  dsimp only
  split
  · exact Kept.refl s
  · refine Kept.updCh s c fun x => ?_
    obtain ⟨h1, h2, h3⟩ := command_kept x.line (s.ch c).state.closesLine s.now (s.rbWindow c)
    constructor <;> first | rfl | exact h1 | exact h2 | exact h3

/-- A change of state that neither leaves IDLE nor begins a wind keeps, with all its hand-offs, what routing
keeps (R102). -/
theorem changeState_kept (s : State) (c : Channel) {new : ChanState} (h0 : (s.ch c).state ≠ .idle)
    (h1 : new ≠ .run) : Kept s (s.changeState c new) := by
  unfold State.changeState
  dsimp only
  split
  · exact Kept.refl s
  · exact (((Kept.updCh s c fun x => by constructor <;> rfl).trans (handReference_kept _ c h0 h1)).trans
      (handEnvelope_kept _ c _ _)).trans (commandLine_kept _ c)

/-- A response never takes a channel into RUN or out of IDLE (R107, R108). -/
theorem responseState_cases (cls : EvClass) (st : ChanState) :
    responseState cls st = st ∨ (st ≠ .idle ∧ responseState cls st ≠ .run) := by
  cases cls <;> cases st <;> simp [responseState]

theorem changeState_same (s : State) (c : Channel) : s.changeState c (s.ch c).state = s := by
  simp [State.changeState]

theorem respond_kept (s : State) (cls : EvClass) (c : Channel) : Kept s (s.respond cls c) := by
  unfold State.respond
  rcases responseState_cases cls (s.ch c).state with h | ⟨h0, h1⟩
  · rw [h, changeState_same]
    exact Kept.refl s
  · exact changeState_kept s c h0 h1

theorem choose_kept (s : State) : Kept s s.choose.2 := by
  constructor <;> first | rfl | exact ChanKept.refl _

theorem respondAll_kept (s : State) (rt : Route) (c : Channel) : Kept s (s.respondAll rt c) := by
  unfold State.respondAll
  split
  · exact respond_kept s _ c
  · split
    · split
      · exact ((choose_kept s).trans (respond_kept _ _ _)).trans (respond_kept _ _ _)
      · exact ((choose_kept s).trans (respond_kept _ _ _)).trans (respond_kept _ _ _)
    · exact (respond_kept s _ _).trans (respond_kept _ _ _)

theorem offer_kept (s : State) (b : NoticeBody) : Kept s (s.offer b) := by
  unfold State.offer
  dsimp only
  split
  · constructor <;> first | rfl | exact ChanKept.refl _
  · split <;> constructor <;> first | rfl | exact ChanKept.refl _

/-- The routing of one event, with all it entails, keeps what routing keeps (R125). -/
theorem route_kept (s : State) (r : Raised) : Kept s (s.route r) := by
  unfold State.route
  dsimp only
  split
  · exact Kept.refl s
  · have h := (Kept.updCh s r.chan (f := fun x => x.setFlag r.src (x.flagRouted
      (if r.injected then .latch else effectiveLatch (s.active.route r.chan r.src) r.src) r.src))
      fun x => by constructor <;> rfl).trans
      (respondAll_kept _ (s.active.route r.chan r.src) r.chan)
    split
    · exact h.trans (offer_kept _ _)
    · exact h

theorem drain_kept (n : Nat) (s : State) : Kept s (State.drain n s) := by
  induction n generalizing s with
  | zero => exact Kept.refl s
  | succ n ih =>
    unfold State.drain
    split
    · exact Kept.refl s
    · exact (Kept.trans (by constructor <;> first | rfl | exact ChanKept.refl _)
        (route_kept _ _)).trans (ih _)

/-- Routing the waiting events keeps what routing keeps. -/
theorem routeAll_kept (s : State) : Kept s s.routeAll := drain_kept 16 s

theorem raise_kept (s : State) (r : Raised) : Kept s (s.raise r) :=
  (enqueue_kept s r).trans (routeAll_kept _)

/-- With no commit pending its judgement changes nothing. -/
theorem judgeCommit_of_none {s : State} (h : s.pendingCommit = false) : s.judgeCommit = s := by
  simp [State.judgeCommit, h]

theorem judgeSince_of_none {s : State} (was : State) (h : s.pendingCommit = false) :
    s.judgeSince was = s := by
  unfold State.judgeSince
  split
  · rfl
  · exact judgeCommit_of_none h

theorem routeAndJudge_kept (s was : State) (h : s.pendingCommit = false) : Kept s (s.routeAndJudge was) := by
  have k := routeAll_kept s
  unfold State.routeAndJudge
  rw [judgeSince_of_none was (k.pendingCommit.trans h)]
  exact k

theorem raiseAndJudge_kept (s : State) (r : Raised) (h : s.pendingCommit = false) :
    Kept s (s.raiseAndJudge r) :=
  (enqueue_kept s r).trans (routeAndJudge_kept _ s h)

theorem judgeStopEnd_kept (s : State) (c : Channel) : Kept s (s.judgeStopEnd c) := by
  unfold State.judgeStopEnd
  split
  · next h => exact changeState_kept s c (by simp [h.1]) (by simp)
  · exact Kept.refl s

theorem judgeAdmission_kept (s : State) (c : Channel) (b : Bool) : Kept s (s.judgeAdmission c b) := by
  unfold State.judgeAdmission
  split
  · next h =>
    simp only [Bool.and_eq_true, decide_eq_true_eq] at h
    exact changeState_kept s c (by simp [h.1.2]) (by simp)
  · exact Kept.refl s

theorem judgeClearance_kept (s : State) (c : Channel) : Kept s (s.judgeClearance c) := by
  unfold State.judgeClearance
  split
  · next h => exact changeState_kept s c (by simp [h.1]) (by simp)
  · exact Kept.refl s

theorem settle_kept (s : State) : Kept s s.settle := by
  constructor <;> first | rfl | (constructor <;> rfl)

theorem afterForward_kept (s : State) (c : Channel) (h : s.pendingCommit = false) :
    Kept s (s.afterForward c) := by
  have k := (judgeStopEnd_kept s c).trans (routeAll_kept _)
  unfold State.afterForward
  rw [judgeCommit_of_none (k.pendingCommit.trans h)]
  exact k

end Sys2Proof.Machine
end

