-- ==== Sys2Proof/WellFormed.lean ====
section
/-! DEFINITION. Which commands the manual's rows can spell: a frame of 0 to 60 payload bytes (R168), of
the KIND its row names (R170), and line numbers that exist (R24, R116). -/

namespace Sys2Proof

/-- A frame's LEN lies from 0 to 60 (R168). -/
def LinkFrame.wf (f : LinkFrame) : Bool := f.payload.length ≤ 60

/-- The command's operands lie in the ranges its rule gives. -/
def Instr.wf : Instr → Bool
  | .refFrameReceived _ f => f.wf && f.kind == LinkFrame.kindRef && f.payload.length == 4
  | .fbkFrameReceived _ f => f.wf && f.kind == LinkFrame.kindFbk && f.payload.length == 17
  | .mreqReceived _ f => f.wf && f.kind == LinkFrame.kindMreq && 2 ≤ f.payload.length
  | .passThroughFrame _ _ f => f.wf
  | .markInputChange _ line _ => line < 16
  | .markFilterAccept _ line => line < 16
  | .permitInputChange _ _ line _ => line < 8
  | .permitFilterAccept _ _ line => line < 8
  | .badFrame _ _ _ => true
  | .feedbackEvaluation _ _ => true
  | .upstreamPortGrant _ => true
  | .downstreamPortGrant _ => true
  | .status _ => true
  | .conveyanceRead _ => true
  | .rowRead _ => true
  | .rowWrite _ => true
  | .rowInsert _ => true
  | .rowDelete _ => true
  | .rowFind _ => true
  | .entryRead _ => true
  | .entryWrite _ => true
  | .restrictRead _ => true
  | .restrictWrite _ => true
  | .bankCopy _ => true
  | .bankCheck _ => true
  | .checkCompletes _ => true
  | .bankCommit _ => true
  | .commitCancel _ => true
  | .duty _ => true
  | .clear _ => true
  | .backout _ => true
  | .eventInject _ => true
  | .softReset _ => true
  | .badRequest _ => true
  | .measuringWheelTransition _ _ _ => true
  | .readbackInputChange _ _ _ => true
  | .readbackFilterAccept _ _ => true
  | .readbackWindowExpiry _ _ => true
  | .fbkGapTimerExpiry _ _ => true
  | .refGapTimerExpiry _ _ => true
  | .substitutePeriodExpiry _ _ => true
  | .holdGeneratorHalfPeriod _ => true
  | .flashGeneratorHalfPeriod _ => true
  | .powerOn _ => true
  | .supplyEstablished _ _ => true
  | .resetInputAsserted _ => true
  | .resetInputDeasserted _ _ => true
  | .softResetPeriodEnd _ _ => true

end Sys2Proof
end

