-- ==== Sys2Proof/Laws/PerInstr.lean ====
section
/-! SUPPORT. One statement of every command as syntax: a frame it carries is one the link can carry (R168). -/

namespace Sys2Proof.Laws.Framed

open Sys2Proof

/-- The frame a command carries. -/
def carried : Instr → Option LinkFrame
  | .refFrameReceived _ f => some f
  | .fbkFrameReceived _ f => some f
  | .mreqReceived _ f => some f
  | .passThroughFrame _ _ f => some f
  | _ => none

/-- The frame of a well-formed command has at most 60 payload bytes (R168, R169). -/
def Statement (i : Instr) : Prop := i.wf = true → ∀ f, carried i = some f → f.payload.length ≤ 60

theorem wf_length {f : LinkFrame} (h : f.wf = true) : f.payload.length ≤ 60 := by
  simpa [LinkFrame.wf] using h

/-- A command that carries no frame. -/
theorem frameless {i : Instr} (h : carried i = none) : Statement i := fun _ f hf => by
  rw [h] at hf
  cases hf

theorem refFrameReceived (t : Micros) (f : LinkFrame) : Statement (.refFrameReceived t f) :=
    fun h g hg => by
  cases hg
  simp only [Instr.wf, Bool.and_eq_true] at h
  exact wf_length h.1.1
theorem fbkFrameReceived (t : Micros) (f : LinkFrame) : Statement (.fbkFrameReceived t f) :=
    fun h g hg => by
  cases hg
  simp only [Instr.wf, Bool.and_eq_true] at h
  exact wf_length h.1.1
theorem feedbackEvaluation (t : Micros) (c : Channel) : Statement (.feedbackEvaluation t c) := frameless rfl
theorem mreqReceived (t : Micros) (f : LinkFrame) : Statement (.mreqReceived t f) := fun h g hg => by
  cases hg
  simp only [Instr.wf, Bool.and_eq_true] at h
  exact wf_length h.1.1
theorem passThroughFrame (t : Micros) (p : Port) (f : LinkFrame) : Statement (.passThroughFrame t p f) :=
    fun h g hg => by
  cases hg
  exact wf_length h
theorem badFrame (t : Micros) (p : Port) (bytes : List Byte) : Statement (.badFrame t p bytes) :=
    frameless rfl
theorem upstreamPortGrant (t : Micros) : Statement (.upstreamPortGrant t) := frameless rfl
theorem downstreamPortGrant (t : Micros) : Statement (.downstreamPortGrant t) := frameless rfl
theorem status (t : Micros) : Statement (.status t) := frameless rfl
theorem conveyanceRead (t : Micros) : Statement (.conveyanceRead t) := frameless rfl
theorem rowRead (t : Micros) : Statement (.rowRead t) := frameless rfl
theorem rowWrite (t : Micros) : Statement (.rowWrite t) := frameless rfl
theorem rowInsert (t : Micros) : Statement (.rowInsert t) := frameless rfl
theorem rowDelete (t : Micros) : Statement (.rowDelete t) := frameless rfl
theorem rowFind (t : Micros) : Statement (.rowFind t) := frameless rfl
theorem entryRead (t : Micros) : Statement (.entryRead t) := frameless rfl
theorem entryWrite (t : Micros) : Statement (.entryWrite t) := frameless rfl
theorem restrictRead (t : Micros) : Statement (.restrictRead t) := frameless rfl
theorem restrictWrite (t : Micros) : Statement (.restrictWrite t) := frameless rfl
theorem bankCopy (t : Micros) : Statement (.bankCopy t) := frameless rfl
theorem bankCheck (t : Micros) : Statement (.bankCheck t) := frameless rfl
theorem checkCompletes (t : Micros) : Statement (.checkCompletes t) := frameless rfl
theorem bankCommit (t : Micros) : Statement (.bankCommit t) := frameless rfl
theorem commitCancel (t : Micros) : Statement (.commitCancel t) := frameless rfl
theorem duty (t : Micros) : Statement (.duty t) := frameless rfl
theorem clear (t : Micros) : Statement (.clear t) := frameless rfl
theorem backout (t : Micros) : Statement (.backout t) := frameless rfl
theorem eventInject (t : Micros) : Statement (.eventInject t) := frameless rfl
theorem softReset (t : Micros) : Statement (.softReset t) := frameless rfl
theorem badRequest (t : Micros) : Statement (.badRequest t) := frameless rfl
theorem measuringWheelTransition (t : Micros) (phase1 : Bool) (phase2 : Bool) : Statement (.measuringWheelTransition t phase1 phase2) :=
    frameless rfl
theorem markInputChange (t : Micros) (line : Nat) (level : Bool) : Statement (.markInputChange t line level) :=
    frameless rfl
theorem markFilterAccept (t : Micros) (line : Nat) : Statement (.markFilterAccept t line) := frameless rfl
theorem permitInputChange (t : Micros) (c : Channel) (line : Nat) (level : Bool) : Statement (.permitInputChange t c line level) :=
    frameless rfl
theorem permitFilterAccept (t : Micros) (c : Channel) (line : Nat) : Statement (.permitFilterAccept t c line) :=
    frameless rfl
theorem readbackInputChange (t : Micros) (c : Channel) (level : Bool) : Statement (.readbackInputChange t c level) :=
    frameless rfl
theorem readbackFilterAccept (t : Micros) (c : Channel) : Statement (.readbackFilterAccept t c) :=
    frameless rfl
theorem readbackWindowExpiry (t : Micros) (c : Channel) : Statement (.readbackWindowExpiry t c) :=
    frameless rfl
theorem fbkGapTimerExpiry (t : Micros) (c : Channel) : Statement (.fbkGapTimerExpiry t c) := frameless rfl
theorem refGapTimerExpiry (t : Micros) (c : Channel) : Statement (.refGapTimerExpiry t c) := frameless rfl
theorem substitutePeriodExpiry (t : Micros) (c : Channel) : Statement (.substitutePeriodExpiry t c) :=
    frameless rfl
theorem holdGeneratorHalfPeriod (t : Micros) : Statement (.holdGeneratorHalfPeriod t) := frameless rfl
theorem flashGeneratorHalfPeriod (t : Micros) : Statement (.flashGeneratorHalfPeriod t) := frameless rfl
theorem powerOn (t : Micros) : Statement (.powerOn t) := frameless rfl
theorem supplyEstablished (t : Micros) (straps : BitVec 4) : Statement (.supplyEstablished t straps) :=
    frameless rfl
theorem resetInputAsserted (t : Micros) : Statement (.resetInputAsserted t) := frameless rfl
theorem resetInputDeasserted (t : Micros) (straps : BitVec 4) : Statement (.resetInputDeasserted t straps) :=
    frameless rfl
theorem softResetPeriodEnd (t : Micros) (straps : BitVec 4) : Statement (.softResetPeriodEnd t straps) :=
    frameless rfl

end Sys2Proof.Laws.Framed
end

