-- ==== Sys2Proof/Laws/Routing.lean ====
section
/-! SUPPORT. What routing does where nothing waits, and what a change of state adds to what waits: a channel
that comes to stand raises nothing, unless it leaves BACKOUT. -/

namespace Sys2Proof.Machine

/-- Routing with nothing waiting changes nothing. -/
theorem routeAll_nil {s : State} (h : s.raised = []) : s.routeAll = s := by
  simp [State.routeAll, State.drain, h]

/-- One waiting event is routed, then what it gave rise to. -/
theorem raise_eq {s : State} (h : s.raised = []) (r : Raised) : s.raise r = State.drain 15 (s.route r) := by
  obtain ⟨⟩ := s
  simp only at h
  subst h
  rfl

theorem condition_of_false (s : State) (old : Bool) (r : Raised) :
    (s.condition old false r).raised = s.raised := by
  unfold State.condition
  simp only [Bool.false_and, Bool.false_eq_true, if_false]
  split
  · unfold State.fall
    cases r.chan <;> rfl
  · rfl

/-- A condition that was false and stays false changes nothing. -/
theorem condition_false_false (s : State) (r : Raised) : s.condition false false r = s := rfl

theorem State.when_raised (s : State) (b : Bool) {f : State → State}
    (h : (f s).raised = s.raised) : (s.when b f).raised = s.raised := by
  cases b
  · rfl
  · exact h

theorem joinRef_raised (s : State) (r : RefItem) : (s.joinRef r).raised = s.raised := by
  unfold State.joinRef
  split <;> rfl

theorem originate_raised (s : State) (c : Channel) (v : Speed) : (s.originate c v).raised = s.raised := by
  unfold State.originate
  rw [joinRef_raised]
  cases c <;> rfl

theorem zeroReference_raised (s : State) (c : Channel) : (s.zeroReference c).raised = s.raised := by
  unfold State.zeroReference
  split
  · rfl
  · exact originate_raised s c 0

theorem handReference_raised (s : State) (c : Channel) (old new : ChanState) :
    (s.handReference c old new).raised = s.raised := by
  unfold State.handReference
  rw [State.when_raised _ _ rfl, State.when_raised _ _ (by cases c <;> rfl)]
  have h : ∀ x : State, (x.rearmGap c old new).raised = x.raised := fun x => by
    unfold State.rearmGap
    split
    · rfl
    · cases c <;> rfl
  rw [h, State.when_raised _ _ (by cases c <;> rfl), State.when_raised _ _ (zeroReference_raised _ _)]

theorem commandLine_raised (s : State) (c : Channel) : (s.commandLine c).raised = s.raised := by
  unfold State.commandLine
  dsimp only
  split
  · rfl
  · cases c <;> rfl

theorem judgeAlarms_standing {s : State} {c : Channel} (h : (s.ch c).state.moving = false) :
    (s.judgeAlarms c).raised = s.raised := by
  unfold State.judgeAlarms
  simp only [h, Bool.false_and, State.setLow1, State.setLow0]
  rw [condition_of_false, State.updCh_raised, condition_of_false, State.updCh_raised]

theorem judgePermits_standing {s : State} {c : Channel} (h : (s.ch c).state.moving = false) :
    (s.judgePermits c).raised = s.raised := by
  unfold State.judgePermits
  simp only [h, Bool.false_and]
  rw [condition_of_false, State.updCh_raised]

end Sys2Proof.Machine
end

