-- ==== Sys2Proof/Tests/Slice0.lean ====
section
/-! SUPPORT. Tests: ill-formed commands are refused, the manual's worked figures come out, and every statement
with hypotheses has a state and operands that meet them. -/

namespace Sys2Proof.Tests

-- The theorems are elaborated one after another: each then needs no thread of its own.
set_option Elab.async false

open Sys2Proof Sys2Proof.Machine

/-! Ill-formed commands. -/

/-- A frame of a kind with a payload of `n` zero bytes. -/
def frame (kind : Byte) (n : Nat) : LinkFrame := ⟨0x10, 0x01, kind, List.replicate n 0⟩

theorem test_wf_ref_kind : (Instr.refFrameReceived 0 (frame 2 4)).wf = false := by decide
theorem test_wf_ref_length : (Instr.refFrameReceived 0 (frame 1 5)).wf = false := by decide
theorem test_wf_ref : (Instr.refFrameReceived 0 (frame 1 4)).wf = true := by decide
theorem test_wf_fbk_kind : (Instr.fbkFrameReceived 0 (frame 1 17)).wf = false := by decide
theorem test_wf_fbk_length : (Instr.fbkFrameReceived 0 (frame 2 16)).wf = false := by decide
theorem test_wf_mreq_kind : (Instr.mreqReceived 0 (frame 4 2)).wf = false := by decide
theorem test_wf_mreq_length : (Instr.mreqReceived 0 (frame 3 1)).wf = false := by decide
theorem test_wf_pass_length : (Instr.passThroughFrame 0 .up (frame 9 61)).wf = false := by decide
theorem test_wf_mark_line : (Instr.markInputChange 0 16 true).wf = false := by decide
theorem test_wf_mark_filter : (Instr.markFilterAccept 0 16).wf = false := by decide
theorem test_wf_permit_line : (Instr.permitInputChange 0 .a 8 true).wf = false := by decide
theorem test_wf_permit_filter : (Instr.permitFilterAccept 0 .b 8).wf = false := by decide

/-- The table gives its rows no bits, so no word spells a command. -/
theorem test_no_word : decodeTableWord 16 0x1234 = none ∧ State.reset.withFetchWord 16 0 = State.reset := by
  decide

/-! The manual's worked figures. -/

/-- A row with one pair of limits in every plane. -/
def flat (d v w : Int) : Row := Row.build d fun _ => ⟨v, w⟩

/-- 3.7, lookup at 33,333 mm. -/
theorem test_lookup_rising :
    lookup 1 .down [flat 20000 4000 3000, flat 60000 15000 15000] 33333 = 7666 ∧
      lookup 1 .up [flat 20000 4000 3000, flat 60000 15000 15000] 33333 = 6999 := by decide

/-- 3.7, lookup at 3,061,337 mm, where the limits fall. -/
theorem test_lookup_falling :
    lookup 1 .down [flat 3050000 9000 12000, flat 3080000 6000 8000] 3061337 = 7866 ∧
      lookup 1 .up [flat 3050000 9000 12000, flat 3080000 6000 8000] 3061337 = 10488 := by decide

/-- 4.5, a value of 6,500 under a factor of 6, and of 7,866 under a factor of 7. -/
theorem test_derate_step :
    composePermit 7866 (some 6500) true 2000 6 = 4875 ∧ composePermit 7866 none true 2000 7 = 6882 := by
  decide

/-- 11.3, the stretch of the skip's rope. -/
theorem test_stretch : ropeStretch 2850000 18500 3436 = 2636 := by decide

/-- 11.2, a correction of −200 mm: −4 at index 0, −3 at index 1, −4 at index 8. -/
theorem test_shares :
    Correction.start (-200) = ⟨-1, 3, 8, 0, 0⟩ ∧ (Correction.mk (-1) 3 8 0 0).share = -4 ∧
      (Correction.mk (-1) 3 8 1 0).share = -3 ∧ (Correction.mk (-1) 3 8 8 0).share = -4 := by decide

/-! The plant of chapter 11. -/

/-- The parameters of both channels that chapter 11 gives alike. -/
def common : Params := { Params.initial with
  inUse := true
  tNom := 4000
  f := 3
  vMax := 15000
  vRest := 50
  sD := 262144
  sS := 524288
  lBal := 3200000
  creepLim := 200
  slipStep := 40
  k := 3436
  cwt := ⟨60000, 3203000, 3000000⟩
  clearance := 500
  vUnconf := 2000
  vCreep := 300
  tCeil := 6
  mAbs := 250
  aStop := 1250
  aTrip := 1500
  g := 3
  tLong := 100
  permitEn := 3
  tRb := 50 }

/-- A bank with the limits of chapter 11. -/
def bank : Bank := { Bank.initial with
  cage := [flat (-2000) 15000 15000, flat 3118000 15000 15000]
  cwt := [flat 60000 15000 15000, flat 3203000 15000 15000]
  skip := [flat (-25000) 15000 15000, flat 3140000 15000 15000]
  marks := Bank.initial.marks.set 3 ⟨true, 4, .cage, 1299800, 300, .down⟩
  paramsA := { common with driveAddr := 0x10, prim := ⟨-2000, 3118000, 0⟩ }
  paramsB := { common with driveAddr := 0x11, prim := ⟨-25000, 3140000, 0⟩ } }

/-- R161: the plant passes the CHECK. -/
theorem test_check_passes : checkBank 0x40 bank = none := by decide +kernel

/-- 11.1: t_rb of channel B reads 0, and the offence is 9, 31, PARAM_RANGE. -/
theorem test_check_offence :
    checkBank 0x40 { bank with paramsB := { bank.paramsB with tRb := 0 } } = some ⟨9, 31, .paramRange⟩ := by
  decide +kernel

/-- A channel in a state, its lines asserted, its readback in agreement, with valid feedback at rest. -/
def chan (st : ChanState) : Chan := { Chan.reset (List.replicate 8 true) st.closesLine with
  state := st
  ctr := { Tracking.reset with feedbackValid := true, confirmed := true, rebasePending := false }
  env := { Envelope.reset with pDown := 2000, pUp := 2000, ceilDown := 2437, ceilUp := 2437 }
  line := { TripLine.reset st.closesLine with closed := st.closesLine } }

/-- The plant with its channels in two states. -/
def plant (a b : ChanState) : State :=
  { State.reset with active := bank, activeLoaded := true, chA := chan a, chB := chan b }.settle

/-- What a predicate says of the next state. -/
def then_ (o : Host.Outcome State Fault Refusal) (p : State → Bool) : Bool :=
  match o with
  | .next u => p u
  | _ => false

/-- A REF frame for channel A with a speed and a toggle. -/
def ref (v : Int) (toggle : Byte) : LinkFrame := ⟨0x10, 0x01, 1, bytes16 (BitVec.ofInt 16 v) ++ [9, toggle]⟩

/-- An FBK frame of channel A with a drum count, at rest. -/
def fbk (count : Int) : LinkFrame := ⟨0x01, 0x10, 2, bytes32 (BitVec.ofInt 32 count) ++ List.replicate 13 0⟩

/-- 11.1: the REF of +12,000 starts the wind, clamped to 2,000. -/
theorem test_first_wind : then_ (exec (.refFrameReceived 9000 (ref 12000 1)) (plant .ready .held))
    (fun u => u.chA.state == .run && u.chA.rsv.forwarded == 2000 && u.chA.flag .refClamped == .latched
      && u.chA.rsv.gapTimer == some ⟨9000, 12000⟩) = true := by decide +kernel

/-- The plant with a channel A frame under evaluation after a commit. -/
def rebasing : State := (plant .held .held).updCh .a fun x => { x with
  underway := some ⟨fbk 4000000, 0⟩
  ctr := { x.ctr with rebasePending := true, confirmed := false }
  env := { Envelope.reset with ceilDown := 250, ceilUp := 250 } }

/-- 11.1: the re-base evaluation forms permits of 2,000 and ceilings of 2,437, and admits the channel. -/
theorem test_first_evaluation : then_ (exec (.feedbackEvaluation 9000 .a) rebasing)
    (fun u => u.chA.prim.est == 1000000 && u.chA.cwt.est == 2200000 && u.chA.env.pDown == 2000
      && u.chA.env.ceilUp == 2437 && u.chA.state == .ready) = true := by decide +kernel

/-- R5: 00 to 10 counts up, and 10 to 00 down. -/
theorem test_wheel : wheelStep (false, false) (true, false) = 1 ∧ wheelStep (true, false) (false, false) = -1 ∧
    wheelStep (false, false) (true, true) = 0 := by decide

/-- R169: the known check value of this polynomial and initial value over the digits 1 to 9. -/
theorem test_crc : crc16 [0x31, 0x32, 0x33, 0x34, 0x35, 0x36, 0x37, 0x38, 0x39] = 0x29B1 := by
  decide +kernel

/-- R177: DUTY, channel A, plane 1, as it is sent; one byte short it is no request. -/
theorem test_request : decodeReq 16 [0, 1] = some (.duty 0 1) ∧ decodeReq 16 [0] = none ∧
    decodeReq 21 [] = none := by decide

/-- 9.4.5: row 37 of both banks. -/
def row37 : Row := ⟨3050000, ⟨6000, 8000⟩, ⟨9000, 12000⟩, ⟨1000, 1000⟩, ⟨3000, 3000⟩⟩

/-- 9.4.5: the edit of the ROW WRITE. -/
def lower37 : Edit := ⟨0, 37, .lower, true, 3, 2, 0, [⟨7000, 0⟩]⟩

/-- 9.4.5: the row written, and the row inserted. -/
theorem test_edits : lower37.row 15000 row37 row37 = { row37 with plane1 := ⟨7000, 12000⟩ } ∧
    (Edit.mk 0 38 .shift true 15 1 15000 [⟨0, 0⟩]).row 15000 row37 Row.zero =
      { row37 with depth := 3065000 } := by decide

/-- 9.4.5: the plane map of the ROW FIND. -/
theorem test_find : (FindQuery.mk true 0 37 (flat 0 7000 0) 2 2).planeMap
    { row37 with plane1 := ⟨7000, 12000⟩ } = 2 := by decide

/-- 2.5: an edge 1,750 µs after the last frame at 12,000 mm/s lies 21 mm on. -/
theorem test_extrapolation : ((plant .run .held).updCh .a fun x => { x with
    prim := { x.prim with est := 1523979 }
    ctr := { x.ctr with vMeas := 12000, lastArrival := 4000 } }).extrapolate .cage 5750 = 1524000 := by
  decide

/-- 2.10: the correction of +1,357 mm. -/
theorem test_correction : Correction.start 1357 = ⟨1, 21, 13, 0, 0⟩ := by decide

/-- 4.2 and 5.8: a descent step of 6 and a stopping step of 5. -/
theorem test_steps : descentStep common = 6 ∧ stoppingStep common = 5 := by decide

/-! States that meet the hypotheses of the statements. -/

/-- The premises of `Settled`, as one test. -/
def calm (s : State) : Bool :=
  !s.inReset && decide (s.chA.beacon = s.beaconFor .a) && decide (s.chB.beacon = s.beaconFor .b)
    && s.raised.isEmpty && !s.pendingCommit

theorem settled_of {s : State} (h : calm s = true) : Settled s := by
  simp only [calm, Bool.and_eq_true, Bool.not_eq_true', decide_eq_true_eq, List.isEmpty_iff] at h
  obtain ⟨⟨⟨⟨h1, h2⟩, h3⟩, h4⟩, h5⟩ := h
  exact ⟨⟨h1, h2, h3⟩, h4, h5⟩

/-- A request alone in the queue. -/
def asked (s : State) (code : Byte) (ps : List Byte) : State := { s with requests := [⟨0x01, code, 7, ps⟩] }

theorem asked_settled {s : State} (h : Settled s) (code : Byte) (ps : List Byte) :
    Settled (asked s code ps) :=
  ⟨⟨h.running.outOfReset, h.running.beacons.congr (by constructor <;> rfl) rfl rfl⟩, h.raised, h.noCommit⟩

theorem asked_ready {s : State} (h : Settled s) {code : Byte} {ps : List Byte} {r : Req}
    (hp : s.replies.length < 4) (hd : decodeReq code ps = some r) :
    RequestReady (asked s code ps) ⟨0x01, code, 7, ps⟩ [] r :=
  ⟨(asked_settled h code ps).running, hp, rfl, hd⟩

/-- Both channels held. -/
def atRest : State := plant .held .held

theorem settled_atRest : Settled atRest := settled_of (by decide +kernel)

/-- A settled state at rest with the request of a code and parameters. -/
theorem ready_atRest {code : Byte} {ps : List Byte} {r : Req} (hd : decodeReq code ps = some r) :
    RequestReady (asked atRest code ps) ⟨0x01, code, 7, ps⟩ [] r :=
  asked_ready settled_atRest (by decide) hd

theorem witness_StepRunsFrontCommand : State.reset.pending = [] := rfl

theorem witness_ResetEnds_supply : { State.reset with powerReset := true }.powerReset = true ∧
    { State.reset with powerReset := true }.inputReset = false ∧
    { State.reset with powerReset := true }.softReset = none := by decide

theorem witness_ResetEnds_input : { State.reset with inputReset := true }.inputReset = true ∧
    { State.reset with inputReset := true }.powerReset = false ∧
    { State.reset with inputReset := true }.softReset = none := by decide

/-- The period ends exactly 1,000 µs after it began. -/
theorem witness_ResetEnds_soft : { State.reset with softReset := some 7 }.softReset = some 7 ∧
    7 + 1000 ≤ max { State.reset with softReset := some 7 }.now 1007 ∧
    { State.reset with softReset := some 7 }.inReset = true := by decide

theorem witness_ResetEnds_both : { State.reset with powerReset := true, inputReset := true }.powerReset = true ∧
    { State.reset with powerReset := true, inputReset := true }.inputReset = true := by decide

theorem witness_CommandsLostInReset : { State.reset with inputReset := true }.inReset = true ∧
    (Instr.status 5).actsInReset = false := by decide

theorem witness_BadFramesAreCounted : Running { atRest with errUp := 65535 } ∧ parseFrame [] = none :=
  ⟨⟨rfl, settled_atRest.running.beacons.congr (by constructor <;> rfl) rfl rfl⟩, rfl⟩

theorem witness_BadFramesAreCounted_lengths : Running atRest ∧ Serves atRest .a 0x10 ∧
    (frame 1 3).payload.length ≠ 4 ∧ (frame 1 5).kind = LinkFrame.kindRef ∧
    (⟨0x01, 0x10, 2, List.replicate 18 0⟩ : LinkFrame).payload.length ≠ 17 ∧
    (⟨0x40, 0x01, 3, [1]⟩ : LinkFrame).dest = atRest.linkAddr :=
  ⟨settled_atRest.running, ⟨by decide, by decide⟩, by decide, by decide, by decide, by decide⟩

theorem witness_PassThroughJoinsItsBuffer : Running atRest ∧ (frame 9 60).payload.length ≤ 60 ∧
    (frame 9 60).kind ≠ LinkFrame.kindRef ∧ (frame 9 60).kind ≠ LinkFrame.kindMreq ∧
    (frame 9 60).kind ≠ LinkFrame.kindFbk :=
  ⟨settled_atRest.running, by decide, by decide, by decide, by decide⟩

theorem witness_RequestsQueueOrAreAnsweredBusy : Running atRest ∧
    (⟨0x40, 0x01, 3, [1, 7]⟩ : LinkFrame).kind = LinkFrame.kindMreq ∧
    (⟨0x40, 0x01, 3, [1, 7]⟩ : LinkFrame).dest = atRest.linkAddr :=
  ⟨settled_atRest.running, by decide, by decide⟩

theorem serves_a {s : State} (h : s.active = bank) : ServesOnly s .a 0x10 :=
  ⟨⟨by simp only [h]; decide, by simp only [State.params, h]; decide⟩,
    fun k => absurd k.2 (by simp only [State.params, h]; decide)⟩

theorem witness_FeedbackFramesAreHandedOver : Running atRest ∧ (fbk 5).kind = LinkFrame.kindFbk ∧
    (fbk 5).payload.length = 17 ∧ ServesOnly atRest .a (fbk 5).src :=
  ⟨settled_atRest.running, by decide, by decide, serves_a rfl⟩

theorem witness_UpstreamPortIsGrantedInOrder_feedback : Running { atRest with fbkOut := [fbk 5] } :=
  ⟨rfl, settled_atRest.running.beacons.congr (by constructor <;> rfl) rfl rfl⟩

/-- The second reply of a CHECK waits behind one older reply. -/
theorem witness_UpstreamPortIsGrantedInOrder_check :
    Running { atRest with checkReply := some ⟨fbk 5, 1⟩, replies := [⟨fbk 5, false⟩] } :=
  ⟨rfl, settled_atRest.running.beacons.congr (by constructor <;> rfl) rfl rfl⟩

/-- A reference that waits for the port. -/
def waiting (v : Int) (own : Bool) : RefItem := ⟨.a, 0x10, 1, v, 9, 2, own⟩

/-- The plant with a reference waiting. -/
def queued (st : ChanState) (r : RefItem) : State := { plant st .held with refQueue := [r] }

theorem witness_DownstreamGrantBoundsTheSpeed_standing : Settled (queued .held (waiting 600 true)) ∧
    (queued .held (waiting 600 true)).chA.state.moving = false :=
  ⟨settled_of (by decide +kernel), by decide⟩

theorem witness_DownstreamGrantBoundsTheSpeed_run : Settled (queued .run (waiting 3000 false)) :=
  settled_of (by decide +kernel)

/-- The plant in BACKOUT, clear of its limits by DOWN travel. -/
def backingOut : State := ((plant .backout .held).updCh .a fun x => { x with
  env := { x.env with backout := some ⟨⟨3118000, -2800⟩, ⟨3203000, 60000⟩, some .down⟩ } }).settle

theorem witness_DownstreamGrantBoundsTheSpeed_backout :
    Settled { backingOut with refQueue := [waiting (-600) false] } := settled_of (by decide +kernel)

theorem witness_ReadRequestsOnlyAnswer :
    RequestReady (asked atRest 1 []) ⟨0x01, 1, 7, []⟩ [] .status ∧
    RequestReady (asked atRest 2 [3]) ⟨0x01, 2, 7, [3]⟩ [] (.conveyanceRead 3) ∧
    RequestReady (asked atRest 10 [8]) ⟨0x01, 10, 7, [8]⟩ [] (.restrictRead 8) ∧
    RequestReady (asked atRest 8 [1, 9, 31]) ⟨0x01, 8, 7, [1, 9, 31]⟩ [] (.entryRead true 9 31) ∧
    decodeReq 21 [] = none :=
  ⟨ready_atRest (by decide), ready_atRest (by decide), ready_atRest (by decide), ready_atRest (by decide),
    by decide⟩

theorem witness_RowsAreReadAndFound :
    RequestReady (asked atRest 3 [0, 0, 1]) ⟨0x01, 3, 7, [0, 0, 1]⟩ [] (.rowRead false 0 1) ∧
    (bank.profile .cage)[1]? = some (flat 3118000 15000 15000) ∧ (bank.profile .cage).length ≤ 2 ∧
    (FindQuery.mk false 0 0 (flat 0 15000 0) 2 1).rowMatches (flat (-2000) 15000 15000) = true ∧
    (FindQuery.mk false 0 0 (flat 0 7 0) 2 1).rowMatches (flat (-2000) 15000 15000) = false :=
  ⟨ready_atRest (by decide), by decide, by decide, by decide, by decide⟩

/-- The plant with its bank in the shadow too. -/
def copied : State := { atRest with shadow := bank, shadowState := .valid }

theorem settled_copied : Settled copied := settled_of (by decide +kernel)

theorem ready_copied {code : Byte} {ps : List Byte} {r : Req} (hd : decodeReq code ps = some r) :
    RequestReady (asked copied code ps) ⟨0x01, code, 7, ps⟩ [] r :=
  asked_ready settled_copied (by decide) hd

/-- The bytes of an edit of a CAGE row: LOWER, SAME, plane 0, DOWN, 7,000. -/
def editBytes (index : Byte) : List Byte := [0, index, 1, 1, 1, 2, 0, 0, 0, 0, 0x1B, 0x58, 0, 0]

theorem editInRange (index : Nat) : EditInRange ⟨0, index, .lower, true, 1, 2, 0, [⟨7000, 0⟩]⟩ where
  planes := show (1 : Nat) < 16 by decide
  mask := show (2 : Nat) < 8 by decide
  depth := by show (2 : Nat).testBit 0 = true → _; intro h; exact absurd h (by decide)
  limits := by
    intro p hp d _ _
    cases d <;> simp [Edit.sourceOf, Limits.get]

theorem witness_RowWriteWritesTheEditedRow :
    RequestReady (asked copied 4 (editBytes 2)) ⟨0x01, 4, 7, editBytes 2⟩ []
      (.rowWrite ⟨0, 2, .lower, true, 1, 2, 0, [⟨7000, 0⟩]⟩) ∧
    EditInRange ⟨0, 2, .lower, true, 1, 2, 0, [⟨7000, 0⟩]⟩ ∧ (bank.profile .cage).length = 2 :=
  ⟨ready_copied (by decide), editInRange 2, by decide⟩

theorem witness_RowsAreInsertedAndDeleted :
    RequestReady (asked copied 5 (editBytes 2)) ⟨0x01, 5, 7, editBytes 2⟩ []
      (.rowInsert ⟨0, 2, .lower, true, 1, 2, 0, [⟨7000, 0⟩]⟩) ∧
    RequestReady (asked copied 6 [0, 1]) ⟨0x01, 6, 7, [0, 1]⟩ [] (.rowDelete 0 1) ∧
    1 < (bank.profile .cage).length :=
  ⟨ready_copied (by decide), ready_copied (by decide), by decide⟩

theorem witness_RefusedEditsChangeNothing_range :
    RequestReady (asked copied 4 (editBytes 3)) ⟨0x01, 4, 7, editBytes 3⟩ []
      (.rowWrite ⟨0, 3, .lower, true, 1, 2, 0, [⟨7000, 0⟩]⟩) ∧ (bank.profile .cage).length < 3 ∧
    RequestReady (asked copied 6 [0, 2]) ⟨0x01, 6, 7, [0, 2]⟩ [] (.rowDelete 0 2) ∧
    (bank.profile .cage).length ≤ 2 :=
  ⟨ready_copied (by decide), by decide, ready_copied (by decide), by decide⟩

/-- The plant with a full CAGE profile in the shadow. -/
def full : State := { copied with shadow := { bank with cage := List.replicate 96 Row.zero } }

theorem witness_RefusedEditsChangeNothing_full :
    RequestReady (asked full 5 (editBytes 96)) ⟨0x01, 5, 7, editBytes 96⟩ []
      (.rowInsert ⟨0, 96, .lower, true, 1, 2, 0, [⟨7000, 0⟩]⟩) ∧ 96 ≤ (full.shadow.profile .cage).length :=
  ⟨asked_ready (settled_of (by decide +kernel)) (by decide) (by decide), by decide⟩

theorem witness_RefusedEditsChangeNothing_busy :
    RequestReady (asked { copied with shadowState := .checking } 13 []) ⟨0x01, 13, 7, []⟩ [] .bankCheck :=
  asked_ready (settled_of (by decide +kernel)) (by decide) (by decide)

/-- An edit of profile 3, and one of plane bit 4. -/
theorem witness_RefusedEditsChangeNothing_parts :
    RequestReady (asked copied 4 (3 :: (editBytes 0).drop 1)) ⟨0x01, 4, 7, 3 :: (editBytes 0).drop 1⟩ []
      (.rowWrite ⟨3, 0, .lower, true, 1, 2, 0, [⟨7000, 0⟩]⟩) ∧ convOfCode 3 = none ∧
    RequestReady (asked copied 5 [0, 0, 1, 1, 16, 2, 0, 0, 0, 0, 0x1B, 0x58, 0, 0])
      ⟨0x01, 5, 7, [0, 0, 1, 1, 16, 2, 0, 0, 0, 0, 0x1B, 0x58, 0, 0]⟩ []
      (.rowInsert ⟨0, 0, .lower, true, 16, 2, 0, [⟨7000, 0⟩]⟩) ∧
    ¬ EditInRange ⟨0, 0, .lower, true, 16, 2, 0, [⟨7000, 0⟩]⟩ ∧
    RequestReady (asked copied 6 [3, 0]) ⟨0x01, 6, 7, [3, 0]⟩ [] (.rowDelete 3 0) :=
  ⟨ready_copied (by decide), by decide, ready_copied (by decide), fun h => absurd h.planes (by decide),
    ready_copied (by decide)⟩

/-- t_rb of channel B at both ends of its range, and the counterweight's top limit, which B lacks. -/
theorem witness_EntryWriteWritesOneParameter :
    RequestReady (asked copied 9 [9, 31, 0, 0, 0, 10]) ⟨0x01, 9, 7, [9, 31, 0, 0, 0, 10]⟩ []
      (.entryWrite 9 31 [0, 0, 0, 10]) ∧ paramExists .b 31 = true ∧
    paramValue 31 [0, 0, 0, 10] = (paramRange 31).1 ∧ paramValue 31 [0, 0, 0, 200] = (paramRange 31).2 ∧
    (paramRange 31).2 < paramValue 31 [0, 0, 0, 201] ∧ paramExists .b 18 = false :=
  ⟨ready_copied (by decide), by decide, by decide, by decide, by decide, by decide⟩

theorem shape_bank : BankShape bank := by
  constructor <;> try decide
  all_goals
    constructor
    · intro i r h
      have hi : i < 24 := by
        rcases Nat.lt_or_ge i 24 with k | k
        · exact k
        · exact absurd h (by rw [List.getElem?_eq_none (Nat.le_trans (by decide) k)]; simp)
      revert r
      interval_cases i <;> decide
    · intro r h
      revert r
      decide

theorem witness_EntryWriteStoresEntries :
    RequestReady (asked copied 9 [4, 9, 0, 0, 0, 1]) ⟨0x01, 9, 7, [4, 9, 0, 0, 0, 1]⟩ []
      (.entryWrite 4 9 [0, 0, 0, 1]) ∧
    decodeRoute [0, 0, 0, 1] = some ⟨.note, .follow, .own, true⟩ ∧ (bank.routes .a).length = 24 ∧
    BankShape copied.shadow ∧ decodeAlarm [1, 3, 0, 0, 255, 255] = some ⟨true, 3, 65535⟩ ∧
    decodeAlarm [1, 4, 0, 0, 0, 0] = none :=
  ⟨ready_copied (by decide), by decide, by decide, shape_bank, by decide, by decide⟩

theorem witness_EntryWriteStoresEntries_marks :
    RequestReady (asked copied 9 [3, 31, 0, 0, 0, 0, 0, 0, 0, 0, 0, 0, 0, 0])
      ⟨0x01, 9, 7, [3, 31, 0, 0, 0, 0, 0, 0, 0, 0, 0, 0, 0, 0]⟩ []
      (.entryWrite 3 31 [0, 0, 0, 0, 0, 0, 0, 0, 0, 0, 0, 0]) ∧
    decodeMark [0, 0, 0, 0, 0, 0, 0, 0, 0, 0, 0, 0] = some MarkEntry.invalid ∧
    decodeDerate [1, 0, 0, 0, 0, 9, 0, 0, 0, 9, 0, 0, 0, 8] = some ⟨true, 0, 9, 9, 8⟩ :=
  ⟨ready_copied (by decide), by decide, by decide⟩

theorem witness_CopyAndCancel :
    RequestReady (asked copied 12 []) ⟨0x01, 12, 7, []⟩ [] .bankCopy ∧
    RequestReady (asked copied 15 []) ⟨0x01, 15, 7, []⟩ [] .commitCancel ∧ copied.pendingCommit = false :=
  ⟨ready_copied (by decide), ready_copied (by decide), rfl⟩

theorem witness_CopyAndCancel_pending :
    Running (asked { copied with pendingCommit := true } 15 []) :=
  ⟨rfl, settled_copied.running.beacons.congr (by constructor <;> rfl) rfl rfl⟩

theorem witness_CheckBeginsAndCompletes :
    RequestReady (asked copied 13 []) ⟨0x01, 13, 7, []⟩ [] .bankCheck ∧
    Running { copied with shadowState := .checking, checkJob := some (1, 7) } :=
  ⟨ready_copied (by decide), rfl, settled_copied.running.beacons.congr (by constructor <;> rfl) rfl rfl⟩

/-- A notice of a class. -/
def told (k : EvClass) : Notice := ⟨0, { partNotice .checkDone (some 0) none with cls := k }⟩

/-- A CHECK under way beside a full notice queue. -/
theorem witness_CheckBeginsAndCompletes_full :
    Running { copied with
      shadowState := .checking, checkJob := some (1, 7), notices := List.replicate 16 (told .trip) } ∧
    (List.replicate 16 (told .trip)).length = 16 :=
  ⟨⟨rfl, settled_copied.running.beacons.congr (by constructor <;> rfl) rfl rfl⟩, by decide⟩

theorem witness_CheckBeginsAndCompletes_check : BankShape bank ∧ checkBank 0x40 bank = none :=
  ⟨shape_bank, test_check_passes⟩

theorem witness_CommitMakesTheShadowActive :
    RequestReady (asked copied 14 []) ⟨0x01, 14, 7, []⟩ [] .bankCommit ∧ Settled (asked copied 14 []) ∧
    copied.barrierConflict copied.shadow = false ∧ (∀ c, copied.standsAtRest c = true) ∧
    (∀ c, (copied.ch c).flags.length = 24) ∧ (∀ c, (copied.ch c).state = .idle → (copied.ch c).line.stuck = false) ∧
    (∀ c, (copied.ch c).underway = none) ∧ copied.notices.length < 16 :=
  ⟨ready_copied (by decide), asked_settled settled_copied _ _, by decide,
    fun c => by cases c <;> decide, fun c => by cases c <;> rfl, fun c => by cases c <;> decide,
    fun c => by cases c <;> rfl, by decide⟩

/-- R119: a commit that takes channel A to IDLE finds its contact stuck, and leaves the condition false. -/
theorem test_commit_idle : then_
    (exec (.bankCommit 0) (asked (({ plant .tripped .held with
        shadow := { bank with paramsA := { bank.paramsA with inUse := false } }, shadowState := .valid,
        masterClosed := false, holdOn := false, holdHigh := false }.updCh .a fun x =>
          { x with line := { x.line with stuck := true } }).settle) 14 []))
    (fun u => u.chA.state == .idle && !u.chA.line.stuck && u.chA.flags == List.replicate 24 .clear) = true := by
  decide +kernel

/-- The plant with a barrier over the home depth of the cage. -/
def barred : State := { copied with
  restrictions := copied.restrictions.set 0 ⟨true, 0, 10, 0, ⟨true, false, false⟩⟩ }

theorem witness_CommitWaitsOrIsRefused :
    RequestReady (asked barred 14 []) ⟨0x01, 14, 7, []⟩ [] .bankCommit ∧
    barred.barrierConflict barred.shadow = true ∧
    ({ plant .run .held with shadow := bank, shadowState := .valid } : State).standsAtRest .a = false :=
  ⟨asked_ready (settled_of (by decide +kernel)) (by decide) (by decide), by decide, by decide⟩

/-- The plant in motion with a commit pending. -/
def committing : State := { plant .run .held with shadow := bank, shadowState := .valid, pendingCommit := true }

theorem witness_ActiveBankAndLatchChangeRarely :
    BankAutomaton committing ∧ committing.raised = [] ∧ CommitNotOverdue committing ∧
    BankAutomaton (asked copied 14 []) ∧ HeadIs (asked copied 14 []) .bankCommit ∧
    (∃ u, exec (.powerOn 0) committing = .next u) ∧ ∃ u, exec (.bankCommit 0) (asked copied 14 []) = .next u := by
  refine ⟨by constructor <;> decide, rfl, ?_, by constructor <;> decide,
    ⟨rfl, by decide, _, _, rfl, by decide⟩, ⟨_, rfl⟩, ⟨_, rfl⟩⟩
  intro _ h
  exact absurd (h .a) (by decide)

/-- The bytes of a RESTRICT WRITE of entry 0: base 8,192, a k, a cap of 500 and the cage. -/
def fenceBytes (k : Byte) : List Byte := [0, 1, 0, 0, 0x20, 0, 0, 0, 0, k, 1, 0xF4, 1]

theorem witness_RestrictWriteIsJudgedInOrder :
    RequestReady (asked copied 11 (fenceBytes 9)) ⟨0x01, 11, 7, fenceBytes 9⟩ []
      (.restrictWrite 0 ⟨true, 8192, 9, 500, 1⟩) ∧
    copied.restrictions[0]? = some Restriction.invalid ∧
    (RestrictFields.mk true 8192 10 500 1).fits = true ∧
    copied.spanFits (RestrictFields.mk true 0 21 500 1).entry = true ∧
    barred.coversHome (RestrictFields.mk true 0 11 0 1).entry = true ∧
    barred.duplicates 1 (RestrictFields.mk true 0 10 500 1).entry = true ∧
    tightening ⟨true, 0, 10, 0, ⟨true, false, false⟩⟩ Restriction.invalid = false :=
  ⟨ready_copied (by decide), by decide, by decide, by decide, by decide, by decide, by decide⟩

theorem witness_RestrictWriteIsJudgedInOrder_tight :
    Settled (asked copied 11 (fenceBytes 10)) ∧
    copied.judgeRestrict 0 Restriction.invalid (RestrictFields.mk true 8192 10 500 1).entry = .ok ∧
    tightening Restriction.invalid (RestrictFields.mk true 8192 10 500 1).entry = true :=
  ⟨asked_settled settled_copied _ _, by decide, by decide⟩

theorem witness_RestrictWriteIsJudgedInOrder_relaxed :
    barred.judgeRestrict 0 ⟨true, 0, 10, 0, ⟨true, false, false⟩⟩ Restriction.invalid = .ok ∧
    tightening ⟨true, 0, 10, 0, ⟨true, false, false⟩⟩ Restriction.invalid = false := by decide

/-- A restriction of the cage concerns channel A and not channel B. -/
theorem witness_RestrictWriteIsJudgedInOrder_concerned :
    Concerned copied (RestrictFields.mk true 8192 10 500 1).entry .a ∧
    ¬ Concerned copied (RestrictFields.mk true 8192 10 500 1).entry .b := by
  refine ⟨⟨.cage, rfl, by decide, by decide⟩, ?_⟩
  rintro ⟨w, hw, hm, -⟩
  cases w <;> first | exact absurd hw (by decide) | exact absurd hm (by decide)

theorem witness_DutySetsThePlane :
    RequestReady (asked atRest 16 [1, 3]) ⟨0x01, 16, 7, [1, 3]⟩ [] (.duty 1 3) ∧
    Settled (asked atRest 16 [1, 3]) ∧ atRest.chB.state.moving = false ∧
    RequestReady (asked atRest 16 [2, 4]) ⟨0x01, 16, 7, [2, 4]⟩ [] (.duty 2 4) ∧ channelOfCode 2 = none :=
  ⟨ready_atRest (by decide), asked_settled settled_atRest _ _, by decide, ready_atRest (by decide), by decide⟩

theorem witness_ClearClearsWhatIsGone :
    RequestReady (asked atRest 17 [0]) ⟨0x01, 17, 7, [0]⟩ [] (.clear 0) ∧ Settled (asked atRest 17 [0]) ∧
    channelOfCode 0 = some .a :=
  ⟨ready_atRest (by decide), asked_settled settled_atRest _ _, by decide⟩

/-- 11.5: the cage stands above its top limit, tripped and at rest. -/
def overwound : State := ((plant .tripped .held).updCh .a fun x => { x with
  prim := { x.prim with est := -2300 }
  cwt := { x.cwt with est := 3202300 }
  env := { x.env with overHigh := true } }).settle

theorem witness_BackoutIsEnteredFromAnOverwind :
    Settled (asked overwound 18 [0]) ∧ overwound.chA.state = .tripped ∧ overwound.chA.env.overHigh = true ∧
    (∀ src : Source, src ≠ .overwindDeep → src ≠ .overwindHigh → overwound.chA.live src = false) ∧
    overwound.blockedByOther .a = false ∧ overwound.atRest .a = true ∧ overwound.lostPermits .a = [] ∧
    1 ≤ (overwound.params .a).clearance ∧
    alarmHolds (overwound.active.derate .a).alarm0 overwound.chA.ctr = false ∧
    alarmHolds (overwound.active.derate .a).alarm1 overwound.chA.ctr = false :=
  ⟨asked_settled (settled_of (by decide +kernel)) _ _, by decide, by decide,
    fun src _ _ => by cases src <;> first | rfl | contradiction, by decide +kernel, by decide, by decide,
    by decide, by decide, by decide⟩

/-- 11.5: the backout direction is DOWN, and both permits are 300. -/
theorem test_backout : overwound.backoutDir .a = some .down ∧
    overwound.backoutThresholds .cage = ⟨3118000, -2800⟩ := by decide

/-- R90, R113: a BACKOUT accepted as T_long expires gives the gap timer its g × T_nom afresh. -/
theorem test_backout_gap : then_ (exec (.backout 100000) (asked (overwound.updCh .a fun x => { x with
      rsv := { x.rsv with gapTimer := some ⟨0, 100000⟩ } }) 18 [0]))
    (fun u => u.chA.state == .backout && u.chA.rsv.gapTimer == some ⟨100000, 12000⟩) = true := by
  decide +kernel

theorem witness_BackoutIsEnteredFromAnOverwind_refused :
    RequestReady (asked atRest 18 [0]) ⟨0x01, 18, 7, [0]⟩ [] (.backout 0) ∧ atRest.chA.state ≠ .tripped :=
  ⟨ready_atRest (by decide), by decide⟩

theorem witness_InjectedEventsAreRouted :
    RequestReady (asked atRest 19 [0, 23]) ⟨0x01, 19, 7, [0, 23]⟩ [] (.eventInject 0 23) ∧
    Source.ofNum 23 = some .refStale ∧ atRest.chA.flags.length = 24 ∧
    RequestReady (asked atRest 19 [1, 10]) ⟨0x01, 19, 7, [1, 10]⟩ [] (.eventInject 1 10) :=
  ⟨ready_atRest (by decide), by decide, by decide, ready_atRest (by decide)⟩

theorem witness_InjectedEventsAreRouted_note : (atRest.active.route .a .refStale).cls = .note ∧
    (atRest.active.route .a .derateChange).cls = .note ∧ (atRest.active.route .a .derateChange).notify = true ∧
    (atRest.active.route .a .linkLoss).cls = .stop ∧ (atRest.active.route .a .overspeed).cls = .trip := by decide

/-- A channel beside one in IDLE, and a source whose response is handed to both channels. -/
theorem witness_InjectedEventsAreRouted_other : Settled (asked (plant .held .idle) 19 [0, 23]) ∧
    (plant .held .idle).chB.state = .idle ∧ (atRest.active.route .a .triplineStuck).scope = .both ∧
    (atRest.active.route .a .triplineStuck).cls = .trip ∧ atRest.chB.state ≠ .idle :=
  ⟨asked_settled (settled_of (by decide +kernel)) _ _, by decide, by decide, by decide, by decide⟩

/-- Full queues in which the oldest NOTE stands last, the oldest STOP first, and no notice gives way. -/
theorem witness_InjectedEventsAreRouted_full :
    MakesRoom .stop (List.replicate 15 (told .trip)) (told .note) [] ∧
    MakesRoom .trip [] (told .stop) (List.replicate 15 (told .trip)) ∧
    NoRoom .trip (List.replicate 16 (told .trip)) ∧ NoRoom .stop (List.replicate 16 (told .stop)) := by
  refine ⟨.inl ⟨rfl, by decide, ?_⟩, .inr ⟨rfl, rfl, ?_, by simp⟩, .inr (.inr ⟨rfl, ?_⟩), .inr (.inl ⟨rfl, ?_⟩)⟩ <;>
    intro n h <;> rw [List.eq_of_mem_replicate h] <;> decide

theorem witness_SoftResetBeginsWhenItsReplyHasLeft :
    RequestReady (asked atRest 20 []) ⟨0x01, 20, 7, []⟩ [] .softReset ∧ (∀ c, atRest.standsAtRest c = true) ∧
    Running { atRest with upTx := some ⟨fbk 5, true⟩ } ∧ (plant .run .held).standsAtRest .a = false :=
  ⟨ready_atRest (by decide), fun c => by cases c <;> decide,
    ⟨rfl, settled_atRest.running.beacons.congr (by constructor <;> rfl) rfl rfl⟩, by decide⟩

theorem witness_WheelTransitionsAreCounted : BeaconsJudged State.reset := ⟨rfl, rfl⟩

/-- The plant at 1,000 µs with candidates of age 200 µs on mark line 4, permit line 2 of A and readback A. -/
def edged (st : ChanState) (raw : Bool) : State := ({ plant st .held with
  now := 1000
  markFilters := (plant st .held).markFilters.set 4 ⟨raw, !raw, some 800⟩ }.updCh .a fun x => { x with
    permits := (x.permits.set 2 ⟨raw, !raw, some 800⟩).set 1 ⟨raw, !raw, some 800⟩
    line := { x.line with readback := ⟨raw, !raw, some 800⟩ } }).settle

theorem due {raw : Bool} : FilterDue ⟨raw, !raw, some 800⟩ 800 (max 1000 0) := ⟨rfl, by decide⟩

theorem witness_FiltersFollowTheirInputs : Running (edged .held false) ∧
    (edged .held false).markFilters[4]? = some ⟨false, true, some 800⟩ ∧
    FilterDue ⟨false, true, some 800⟩ 800 (max 1000 0) ∧ FilterWaits ⟨false, true, some 800⟩ 999 ∧
    (edged .held false).chA.permits[2]? = some ⟨false, true, some 800⟩ ∧
    ((edged .held false).params .a).permitEn.getLsbD 2 = false ∧
    FilterWaits (edged .held false).chA.line.readback 999 :=
  ⟨(settled_of (by decide +kernel)).running, by decide, due, by intro e h; cases h; decide, by decide,
    by decide, by intro e h; cases h; decide⟩

/-- 2.10 with 11.2's entry 3: the cage runs down, and line 4 rises at the given depth. -/
def passing (est : Int) : State := ((edged .run true).updCh .a fun x => { x with
  prim := { x.prim with est := est }
  ctr := { x.ctr with vMeas := 2000, lastArrival := 800 } }).settle

/-- The one candidate of the edge. -/
def candidate (est : Int) : Candidate := ⟨3, ⟨true, 4, .cage, 1299800, 300, .down⟩, est⟩

theorem selected (est : Int) : Selected (candidate est) [candidate est] :=
  ⟨List.mem_singleton.2 rfl, fun m h => .inr (by rw [List.mem_singleton.1 h]; exact ⟨rfl, Nat.le_refl _⟩)⟩

/-- An edge exactly its tolerance away. -/
theorem witness_AcceptedMarksStartCorrections : Settled (passing 1300100) ∧
    (passing 1300100).markFilters[4]? = some ⟨true, false, some 800⟩ ∧
    FilterDue ⟨true, false, some 800⟩ 800 (max (passing 1300100).now 0) ∧
    (passing 1300100).candidates 4 800 = [candidate 1300100] ∧
    Selected (candidate 1300100) [candidate 1300100] ∧
    (candidate 1300100).distance ≤ (candidate 1300100).entry.tol :=
  ⟨settled_of (by decide +kernel), by decide, ⟨rfl, by decide⟩, by decide +kernel, selected _, by decide⟩

/-- Edges just beyond the tolerance, at the capture and just beyond it, and one with no entry. -/
theorem witness_DoubtfulMarksAreReported : Settled (passing 1300101) ∧
    (passing 1300101).candidates 4 800 = [candidate 1300101] ∧
    (candidate 1300101).entry.tol < (candidate 1300101).distance ∧
    (candidate 1301000).distance ≤ 4 * (candidate 1301000).entry.tol ∧
    4 * (candidate 1301001).entry.tol < (candidate 1301001).distance ∧
    (passing 1301001).chA.flags.length = 24 ∧ (edged .held true).candidates 4 800 = [] :=
  ⟨settled_of (by decide +kernel), by decide +kernel, by decide, by decide, by decide, by decide,
    by decide +kernel⟩

/-- The passage beyond its capture, with a skip entry on the same line that its channel is eligible for too. -/
def crossing : State := { (passing 1301001).updCh .b fun x => { x with
      state := .run
      line := { x.line with closed := true }
      ctr := { x.ctr with vMeas := -2000, lastArrival := 800 } } with
  active := { bank with marks := bank.marks.set 8 ⟨true, 4, .skip, 5000, 300, .up⟩ } }

theorem witness_DoubtfulMarksAreReported_both : Settled crossing ∧
    crossing.candidates 4 800 = [candidate 1301001, ⟨8, ⟨true, 4, .skip, 5000, 300, .up⟩, 0⟩] ∧
    Selected (candidate 1301001) (crossing.candidates 4 800) ∧
    Selected ⟨8, ⟨true, 4, .skip, 5000, 300, .up⟩, 0⟩
      ((crossing.candidates 4 800).filter fun m => convChannel m.entry.conv = .b) ∧
    crossing.chB.flags.length = 24 ∧ (crossing.active.route .b .markUnexpected).notify = true := by
  have h : crossing.candidates 4 800 = [candidate 1301001, ⟨8, ⟨true, 4, .skip, 5000, 300, .up⟩, 0⟩] := by
    decide +kernel
  refine ⟨settled_of (by decide +kernel), h, ?_, ?_, by decide, by decide⟩ <;> rw [h] <;>
    refine ⟨by decide, ?_⟩ <;> decide

theorem witness_LostPermitsStopTheChannel_lost : Settled (edged .run false) ∧
    (edged .run false).chA.permits[1]? = some ⟨false, true, some 800⟩ ∧
    ((edged .run false).params .a).permitEn.getLsbD 1 = true ∧
    (edged .run false).chA.state.moving = true ∧ (edged .run false).chA.permitLost = false :=
  ⟨settled_of (by decide +kernel), by decide, by decide, by decide, by decide⟩

theorem witness_LostPermitsStopTheChannel_back : Settled (edged .run true) ∧
    (edged .run true).chA.permits[1]? = some ⟨true, false, some 800⟩ ∧
    (edged .run true).chA.permits[0]? = some ⟨true, true, none⟩ ∧
    (∀ n, n < 8 → n ≠ 1 → ((edged .run true).params .a).permitEn.getLsbD n = true → n = 0) :=
  ⟨settled_of (by decide +kernel), by decide, by decide, by decide⟩

theorem witness_ReadbackChangesMoveTheMonitor : Running (edged .held false) ∧
    FilterDue (edged .held false).chA.line.readback 800 (max (edged .held false).now 0) ∧
    (edged .held false).chA.line.closed ≠ (edged .held false).chA.line.readback.raw ∧
    (edged .held true).chA.line.closed = (edged .held true).chA.line.readback.raw ∧
    (edged .held false).chA.line.monitor = .agree :=
  ⟨(settled_of (by decide +kernel)).running, ⟨rfl, by decide⟩, by decide, by decide, by decide⟩

/-- The plant with a window of 50 ms started at 0 on the line of channel A, whose readback disagrees. -/
def windowed (st : ChanState) : State := (plant st .held).updCh .a fun x => { x with
  line := { x.line with
    readback := InputFilter.sampled !st.closesLine, monitor := .waiting, window := some ⟨0, 50000⟩ } }

theorem witness_ReadbackWindowsReport : Settled (windowed .held) ∧ Settled (windowed .tripped) ∧
    RunOut (windowed .held).chA.line.window 50000 (max 0 50000) ∧
    NotRunOut (windowed .held).chA.line.window 49999 ∧ (windowed .held).chA.line.closed = true ∧
    (windowed .held).chA.line.readback.filtered = false ∧ LineFollows (windowed .held).chA ∧
    (windowed .tripped).chA.line.closed = false ∧ (windowed .tripped).chA.line.stuck = false ∧
    LineFollows (windowed .tripped).chA ∧
    ((windowed .tripped).active.route .a .triplineStuck).scope = .both :=
  ⟨settled_of (by decide +kernel), settled_of (by decide +kernel), ⟨0, rfl, by decide⟩,
    by intro k h; cases h; decide, by decide, by decide, rfl, by decide, by decide, rfl, by decide⟩

/-- The plant with its gap timers running since 0. -/
def timed (st : ChanState) : State := (plant st .held).updCh .a fun x => { x with
  ctr := { x.ctr with gapTimer := some ⟨0, 12000⟩ }
  rsv := { x.rsv with gapTimer := some ⟨0, 12000⟩, lossCount := 2, forwarded := if st.moving then 4875 else 0 } }

theorem witness_FeedbackLossTrips : Settled (timed .run) ∧
    RunOut (timed .run).chA.ctr.gapTimer 12000 (max 0 12000) ∧ (timed .run).chA.underway = none ∧
    NotRunOut (timed .run).chA.ctr.gapTimer (max 0 11999) ∧ Settled rebasing ∧
    rebasing.chA.underway.isSome = true :=
  ⟨settled_of (by decide +kernel), ⟨0, rfl, by decide⟩, rfl, by intro k h; cases h; decide,
    settled_of (by decide +kernel), rfl⟩

/-- A winding channel with a reference, whose trips send a zero frame. -/
theorem witness_FeedbackLossTrips_zero : ((timed .run).active.route .a .fbkLoss).scope = .own ∧
    BackoutsWithinLimits (timed .run) ∧ (timed .run).chA.rsv.forwarded ≠ 0 ∧ (timed .run).refQueue.length < 4 :=
  ⟨by decide, fun v h => by cases v <;> exact absurd h (by decide), by decide, by decide⟩

theorem witness_InjectedEventsAreRouted_zero : Settled (asked (timed .run) 19 [0, 0]) ∧
    RequestReady (asked (timed .run) 19 [0, 0]) ⟨0x01, 19, 7, [0, 0]⟩ [] (.eventInject 0 0) ∧
    ((timed .run).active.route .a .overspeed).scope = .own ∧
    ((timed .run).active.route .a .overspeed).cls = .trip ∧ BackoutsWithinLimits (asked (timed .run) 19 [0, 0]) :=
  ⟨asked_settled (settled_of (by decide +kernel)) _ _, asked_ready (settled_of (by decide +kernel)) (by decide)
    (by decide), by decide, by decide, fun v h => by cases v <;> exact absurd h (by decide)⟩

/-- R97: the zero frame of the trip, with the drive's address and the substitute flag. -/
theorem test_zero_frame : then_ (exec (.fbkGapTimerExpiry 12000 .a) (timed .run))
    (fun u => u.refQueue == [⟨.a, 0x10, 0, 0, 0, 2, true⟩] && u.chA.rsv.forwarded == 0) = true := by decide +kernel

/-- R20: a gap timer that runs out with a frame taken in already does nothing. -/
theorem test_frame_first : then_ (exec (.fbkGapTimerExpiry 12000 .a) ((timed .run).updCh .a fun x => { x with
      underway := some ⟨fbk 5, 12000⟩ }))
    (fun u => !u.chA.ctr.fbkLoss && u.chA.state == .run) = true := by decide +kernel

/-- R94: of a trip and an expiry of one moment, the trip taken first leaves the expiry to be taken in TRIPPED,
where LINK_LOSS becomes true and no loss is counted. -/
theorem test_trip_first : then_ (exec (.refGapTimerExpiry 12000 .a)
      (({ timed .run with now := 12000 }.changeState .a .tripped).settle))
    (fun u => u.chA.rsv.linkLoss && u.chA.rsv.lossCount == 2 && u.chA.state == .tripped
      && u.chA.rsv.gapTimer == none) = true := by decide +kernel

theorem witness_SubstituteFramesRampDown_loss : Settled (timed .run) ∧ Settled (timed .ready) ∧
    RunOut (timed .run).chA.rsv.gapTimer 12000 (max 0 12000) ∧
    NotRunOut (timed .ready).chA.rsv.gapTimer (max 0 11999) ∧ (timed .run).chA.state.moving = true ∧
    (timed .ready).chA.state.moving = false ∧ ¬ LossTrips (timed .run) .a ∧ BackoutsWithinLimits (timed .run) := by
  refine ⟨settled_of (by decide +kernel), settled_of (by decide +kernel), ⟨0, rfl, by decide⟩,
    by intro k h; cases h; decide, by decide, by decide, ?_, ?_⟩
  · rintro (h | ⟨-, -, h⟩) <;> exact absurd h (by decide)
  · intro v h
    cases v <;> exact absurd h (by decide)

/-- The bank with LINK_LOSS of channel A routed as TRIP, and its low alarms as NOTE with a flag that follows. -/
def rerouted : Bank := { bank with
  routesA := ((bank.routesA.set 13 ⟨.trip, .latch, .own, true⟩).set 17 ⟨.note, .follow, .own, true⟩).set 18
    ⟨.note, .follow, .own, true⟩ }

theorem witness_SubstituteFramesRampDown_trip :
    Settled { timed .run with active := rerouted } ∧ LossTrips { timed .run with active := rerouted } .a ∧
    { timed .run with active := rerouted }.chA.state ≠ .idle :=
  ⟨settled_of (by decide +kernel), .inl (by decide), by decide⟩

/-- 5.8: the third loss of a run begins a substitution, whose first frame carries 4,875 − 5 held to the permit,
and LOSS_LIMIT is raised. -/
theorem test_third_loss : then_ (exec (.refGapTimerExpiry 12000 .a) ((timed .run).updCh .a fun x => { x with
      env := { x.env with pDown := 4875 } }))
    (fun u => u.chA.state == .stopping && u.chA.rsv.lossCount == 3 && u.chA.rsv.forwarded == 4870
      && u.chA.flag .linkLoss == .following && u.chA.flag .lossLimit == .latched) = true := by
  decide +kernel

/-- The plant substituting, with a reference of 4,380 and a period of 4,000 µs begun at 0. -/
def substituting : State := ((plant .stopping .held).updCh .a fun x => { x with
  rsv := { x.rsv with forwarded := 4380, substituting := true, subTimer := some ⟨0, 4000⟩ } }).settle

theorem witness_SubstituteFramesRampDown : Settled substituting ∧
    RunOut substituting.chA.rsv.subTimer 4000 (max 0 4000) ∧ substituting.chA.rsv.substituting = true ∧
    substituting.chA.state = .stopping ∧ substituting.refQueue.length < 4 ∧
    NotRunOut substituting.chA.rsv.subTimer (max 0 3999) :=
  ⟨settled_of (by decide +kernel), ⟨0, rfl, by decide⟩, by decide, by decide, by decide,
    by intro k h; cases h; decide⟩

/-- 5.8: frame 100 falls to the permit of 2,000. -/
theorem test_substitute : then_ (exec (.substitutePeriodExpiry 4000 .a) substituting)
    (fun u => u.chA.rsv.forwarded == 2000 && u.chA.rsv.subTimer == some ⟨4000, 4000⟩) = true := by
  decide +kernel

theorem witness_GeneratorsTurnOver : Running atRest ∧ atRest.holdOn = true ∧
    atRest.holdSince + 1000 ≤ max atRest.now 1000 ∧ max atRest.now 999 < atRest.holdSince + 1000 ∧
    atRest.flashOn = true ∧ atRest.flashSince + 500000 ≤ max atRest.now 500000 ∧
    max atRest.now 499999 < atRest.flashSince + 500000 :=
  ⟨settled_atRest.running, by decide, by decide, by decide, by decide, by decide, by decide⟩


/-- 1.7: the second frame, 192 counts of the drum on. -/
def winding : State := ((plant .run .held).updCh .a fun x => { x with
  underway := some ⟨fbk 5000192, 4000⟩
  prim := { x.prim with drumFine := 1048576000000, sheaveFine := 1048576000000, correction := some ⟨-1, 3, 8, 63, -197⟩ }
  ctr := { x.ctr with lastDrumCount := 5000000, sheaveCounter := 73495, lastSheaveCount := 73400 } }).settle

/-- 1.7: depths of 1,000,048 and 1,000,047 mm and a divergence of 1 mm; the 64th share, −3, ends the record. -/
theorem test_second_evaluation : then_ (exec (.feedbackEvaluation 4000 .a) winding)
    (fun u => u.chA.prim.drumDepth == 1000048 && u.chA.prim.sheaveDepth == 1000047 && u.chA.ctr.dDiv == 1
      && u.chA.prim.est == 1000044 && u.chA.prim.correction == none) = true := by decide +kernel

theorem witness_EvaluationFormsTheDepths : Settled winding ∧ winding.active.inUse .a = true ∧
    winding.chA.underway = some ⟨fbk 5000192, 4000⟩ ∧ winding.chA.ctr.rebasePending = false ∧
    rebasing.chA.ctr.rebasePending = true :=
  ⟨settled_of (by decide +kernel), by decide, rfl, by decide, by decide⟩

theorem shape_rebasing : Shaped rebasing where
  chA := ⟨rfl, rfl, rfl⟩
  chB := ⟨rfl, rfl, rfl⟩
  active := shape_bank
  shadow := by
    constructor <;> first | decide | exact shape_bank.soundA
  markFilters := rfl
  arms := rfl
  restrictions := rfl

theorem witness_EvaluationTakesInTheFrame : Settled rebasing ∧ rebasing.active.inUse .a = true ∧
    rebasing.chA.underway = some ⟨fbk 4000000, 0⟩ ∧ rebasing.fbkOut.length < 4 ∧ Shaped rebasing ∧
    rebasing.chA.state ≠ .idle ∧ 0 ≤ (rebasing.params .a).vRest ∧ 0 ≤ (rebasing.params .a).creepLim ∧
    Settled { rebasing with fbkOut := List.replicate 4 (fbk 5) } :=
  ⟨settled_of (by decide +kernel), by decide, rfl, by decide, shape_rebasing, by decide, by decide, by decide,
    settled_of (by decide +kernel)⟩

/-- The drum moves by exactly J, 360 mm, and by one count more. -/
theorem witness_EvaluationTakesInTheFrame_jump : ¬ JumpFound winding .a ⟨fbk 5001440, 4000⟩ ∧
    JumpFound winding .a ⟨fbk 5001441, 4000⟩ := by
  constructor
  · rintro ⟨-, h | ⟨-, h⟩⟩ <;> revert h <;> decide
  · exact ⟨rfl, .inl (by decide)⟩

theorem witness_EvaluationFormsTheEnvelope : Settled rebasing ∧ Shaped rebasing ∧
    rebasing.chA.state ≠ .backout ∧ rebasing.chA.state ≠ .idle :=
  ⟨settled_of (by decide +kernel), shape_rebasing, by decide, by decide⟩

/-- The plant in BACKOUT with a frame at hand that leaves the cage at a depth. -/
def returning (d : Depth) : State := (({ backingOut with active := rerouted }).updCh .a fun x => { x with
  underway := some ⟨fbk 0, 4000⟩
  prim := { x.prim with corrTotal := d } }).settle

theorem shape_rerouted : BankShape rerouted where
  cage := by decide
  cwt := by decide
  skip := by decide
  marks := by decide
  routesA := by decide
  routesB := by decide
  soundA := by
    constructor
    · intro i r h
      have hi : i < 24 := by
        rcases Nat.lt_or_ge i 24 with k | k
        · exact k
        · exact absurd h (by rw [List.getElem?_eq_none (Nat.le_trans (by decide) k)]; simp)
      revert r
      interval_cases i <;> decide
    · intro r h
      revert r
      decide
  soundB := shape_bank.soundB
  groupsA := by decide
  groupsB := by decide

theorem witness_EvaluationFormsTheEnvelope_backout (d : Depth) : Settled (returning d) ∧
    (returning d).active.inUse .a = true ∧ (returning d).chA.underway = some ⟨fbk 0, 4000⟩ ∧
    (returning d).chA.state = .backout ∧
    (returning d).chA.env.backout = some ⟨⟨3118000, -2800⟩, ⟨3203000, 60000⟩, some .down⟩ ∧
    FlagsObeyed (returning d) ∧ Shaped (returning d) ∧
    ((returning d).active.route .a .lowAlarm0).cls = .note ∧
    ((returning d).active.route .a .lowAlarm1).cls = .note :=
  ⟨⟨⟨rfl, settle_judged _⟩, rfl, rfl⟩, rfl, rfl, rfl, rfl, ⟨by nofun, by nofun, fun _ => rfl, by nofun⟩,
    ⟨⟨rfl, rfl, rfl⟩, ⟨rfl, rfl, rfl⟩, shape_rerouted, shape_rebasing.shadow, rfl, rfl, rfl⟩, rfl, rfl⟩

/-- R114: 500 mm below the top limit the channel is clear, 1 mm higher it is not; R56: the permits are 300. -/
theorem test_clearance :
    then_ (exec (.feedbackEvaluation 4000 .a) (returning (-1500))) (fun u => u.chA.state == .held
      && u.chA.env.pDown == 300 && !u.hasBlocking .a) = true ∧
    then_ (exec (.feedbackEvaluation 4000 .a) (returning (-1501))) (fun u => u.chA.state == .backout
      && u.chA.env.pUp == 300 && !u.hasBlocking .a) = true := by decide +kernel

/-- R71, R126: where both low alarms rise in one judgement and the first trips, the condition of the second falls
with the motion, and its flag with it. -/
theorem test_alarms_together : then_ (exec (.feedbackEvaluation 4000 .a) { winding with
      active := { rerouted with
        routesA := rerouted.routesA.set 17 ⟨.trip, .latch, .own, true⟩
        derateA := { rerouted.derateA with alarm0 := ⟨true, 0, 10⟩, alarm1 := ⟨true, 1, 10⟩ } } })
    (fun u => u.chA.state == .tripped && u.chA.flag .lowAlarm0 == .latched
      && u.chA.flag .lowAlarm1 == .clear) = true := by decide +kernel

/-- The second frame of 1.7 with a mark entry armed and its depths judged before. -/
def marking (a : ArmState) : State := ({ winding with arms := winding.arms.set 3 a }.updCh .a fun x =>
  { x with prim := { x.prim with lastJudged := some 1000000 } }).settle

theorem witness_MarkEntriesAreArmedAndMissed (a : ArmState) : Settled (marking a) ∧
    (marking a).active.inUse .a = true ∧ (marking a).chA.underway = some ⟨fbk 5000192, 4000⟩ ∧
    (marking a).chA.state ≠ .idle ∧ Shaped (marking a) ∧
    (marking a).active.marks[3]? = some ⟨true, 4, .cage, 1299800, 300, .down⟩ ∧ (marking a).arms[3]? = some a :=
  ⟨⟨⟨rfl, settle_judged _⟩, rfl, rfl⟩, rfl, rfl, nofun,
    ⟨⟨rfl, rfl, rfl⟩, ⟨rfl, rfl, rfl⟩, shape_bank, shape_rebasing.shadow, rfl, rfl, rfl⟩, rfl, rfl⟩

/-- At the shallow side of its window exactly an entry that was passed is missed; 1 mm shallower it is given up. -/
theorem witness_MarkEntriesAreArmedAndMissed_passed :
    MarkFoundMissed ⟨true, 4, .cage, 1299800, 300, .down⟩ 1298600 (.armed .shallow true) ∧
    ¬ MarkFoundMissed ⟨true, 4, .cage, 1299800, 300, .down⟩ 1298599 (.armed .shallow true) := by
  refine ⟨.inl ⟨rfl, by decide⟩, ?_⟩
  rintro (⟨-, h⟩ | ⟨h, -⟩) <;> revert h <;> decide

theorem arrives {s : State} (h : Settled s) (hb : s.active = bank) (v : Int) (k : Byte) :
    RefArrives s .a (ref v k) :=
  ⟨h, rfl, rfl, serves_a hb⟩

/-- The plant with the last accepted frame at 500 µs, toggle 0. -/
def heard (st : ChanState) : State := ((plant st .held).updCh .a fun x => { x with
  rsv := { x.rsv with lastAccepted := some 500, lastToggle := some false
                      forwarded := if st.moving then 1000 else 0 } }).settle

theorem heard_settled (st : ChanState) : Settled (heard st) :=
  ⟨⟨rfl, settle_judged _⟩, rfl, rfl⟩

/-- A frame 1,000 µs on is spaced, one 999 µs on is early. -/
theorem heard_spaced (st : ChanState) : Spaced (heard st) .a 1500 ∧ ¬ Spaced (heard st) .a 1499 := by
  constructor
  · intro last h
    cases h
    show (4000 : Int) ≤ 4 * ((1500 - 500 : Nat) : Int)
    decide
  · intro h
    exact absurd (h 500 rfl) (show ¬ (4000 : Int) ≤ 4 * ((1499 - 500 : Nat) : Int) by decide)

theorem toggle_ref (v : Int) : refToggle (ref v 0) = false ∧ refToggle (ref v 1) = true := by
  constructor <;> simp [refToggle, refFlags, byteAt, ref, bytes16]

theorem witness_EarlyAndStaleFrames (v : Int) : RefArrives (heard .run) .a (ref v 0) ∧
    ¬ Spaced (heard .run) .a 1499 ∧ Spaced (heard .run) .a 1500 ∧
    (heard .run).chA.rsv.lastToggle = some (refToggle (ref v 0)) ∧
    ((heard .run).active.route .a .refEarly).cls = .note ∧
    ((heard .run).active.route .a .refStale).cls = .note :=
  ⟨arrives (heard_settled _) rfl v 0, (heard_spaced _).2, (heard_spaced _).1, by rw [(toggle_ref v).1]; rfl, by decide,
    by decide⟩

/-- The plant that has heard a frame, with 4 references of a channel waiting. -/
def crowded (c : Channel) : State := { heard .run with
  refQueue := List.replicate 4 { waiting 600 false with chan := c } }

theorem crowded_settled (c : Channel) : Settled (crowded c) :=
  ⟨⟨rfl, (heard_settled .run).running.beacons.congr (by constructor <;> rfl) rfl rfl⟩, rfl, rfl⟩

/-- A stale frame that finds 4 references waiting, all of its own channel or all of the other. -/
theorem witness_EarlyAndStaleFrames_full (v : Int) (c : Channel) : RefArrives (crowded c) .a (ref v 0) ∧
    Spaced (crowded c) .a 1500 ∧ (crowded c).chA.rsv.lastToggle = some (refToggle (ref v 0)) ∧
    4 ≤ (crowded c).refQueue.length ∧ (crowded c).chA.rsv.substituting = false ∧
    ((crowded c).active.route .a .refStale).cls = .note :=
  ⟨arrives (crowded_settled c) rfl v 0, (heard_spaced .run).1, by rw [(toggle_ref v).1]; rfl, Nat.le_refl 4, rfl,
    by cases c <;> decide⟩

theorem accepted (st : ChanState) (v : Int) : RefAccepted (heard st) .a (ref v 1) (max 0 1500) :=
  ⟨arrives (heard_settled st) rfl v 1, (heard_spaced st).1, by
    rw [(toggle_ref v).2]
    show some false ≠ some true
    decide⟩

theorem witness_StandingChannelsForwardZero : RefAccepted (heard .held) .a (ref 600 1) (max 0 1500) ∧
    RefAccepted (heard .ready) .a (ref 0 1) (max 0 1500) ∧ (heard .ready).request .a (ref 0 1) = 0 ∧
    (heard .held).chA.rsv.substituting = false ∧ (heard .held).chA.state = .held :=
  ⟨accepted _ _, accepted _ _, by decide, rfl, rfl⟩

theorem witness_WindsStartUnderTheirConditions : RefAccepted (heard .ready) .a (ref 12000 1) (max 0 1500) ∧
    (heard .ready).chA.rsv.linkLoss = false ∧ (heard .ready).request .a (ref 12000 1) ≠ 0 ∧
    ((heard .ready).active.route .a .refClamped).cls = .note ∧
    ((heard .ready).active.route .a .refBlocked).cls = .note ∧
    alarmHolds ((heard .ready).active.derate .a).alarm0 (heard .ready).chA.ctr = false ∧
    (heard .ready).hasBlocking .a = false ∧ (heard .ready).lostPermits .a = [] ∧
    0 < (heard .ready).permitToward .a ((heard .ready).request .a (ref 12000 1)) :=
  ⟨accepted _ _, rfl, by decide, by decide, by decide, by decide, by decide +kernel, by decide, by decide⟩

/-- A wind that may not start: no permit in the direction asked. -/
theorem witness_WindsStartUnderTheirConditions_blocked :
    ((heard .ready).updCh .a fun x => { x with env := { x.env with pDown := 0 } }).permitToward .a 600 ≤ 0 := by
  decide

theorem witness_MovingChannelsForwardTheClampedSpeed :
    RefAccepted (heard .run) .a (ref 12000 1) (max 0 1500) ∧
    RefAccepted (heard .backout) .a (ref (-300) 1) (max 0 1500) ∧
    (heard .run).chA.rsv.substituting = false ∧ (heard .run).refQueue.length < 4 ∧
    (∀ b, (heard .backout).chA.env.backout = some b → b.dir ≠ some .up) ∧
    backingOut.chA.env.backout = some ⟨⟨3118000, -2800⟩, ⟨3203000, 60000⟩, some .down⟩ :=
  ⟨accepted _ _, accepted _ _, rfl, by decide, fun b h => (Option.some_ne_none b h.symm).elim, rfl⟩

theorem witness_StoppingChannelsRampDown : RefAccepted (heard .stopping) .a (ref 4875 1) (max 0 1500) ∧
    (heard .stopping).chA.state = .stopping ∧ (heard .stopping).refQueue.length < 4 ∧
    (heard .stopping).chA.rsv.substituting = false :=
  ⟨accepted _ _, rfl, by decide, rfl⟩

theorem witness_ProfilesInterpolateBetweenRows :
    [flat 20000 4000 3000, flat 60000 15000 15000].Pairwise (fun r r' => r.depth < r'.depth) ∧
    (flat 20000 4000 3000).depth ≤ 20000 ∧ (59999 : Int) < (flat 60000 15000 15000).depth := by decide

theorem witness_SharesDeliverTheCorrection (c : Int) : ∃ share : Nat → Int,
    ∀ i, share i = Correction.share ⟨sgn c, (mag c).toNat / 64, (mag c).toNat % 64, i, 0⟩ :=
  ⟨_, fun _ => rfl⟩

/-- The plant with a command waiting. -/
def commanded : State := { atRest with pending := [.resetInputAsserted 5] }

theorem commanded_steps : ∃ u, step commanded = .next u := ⟨_, rfl⟩

theorem witness_StepsKeepCapacities : WithinCapacity commanded ∧ LossBounded commanded :=
  ⟨by constructor <;> decide, by constructor <;> decide⟩

theorem witness_StepsKeepLinesAndReferences :
    LinesFollow commanded ∧ ReferencesSound commanded ∧ IdleUnused commanded :=
  ⟨⟨rfl, rfl, by decide⟩, ⟨by constructor <;> decide, by constructor <;> decide⟩, by constructor <;> decide⟩

theorem rows_sound : ∀ v, ∀ r ∈ bank.profile v, RowSound r := by
  intro v r h p hp d
  cases v <;> simp only [Bank.profile, bank, List.mem_cons, List.not_mem_nil, or_false] at h <;>
    rcases h with rfl | rfl <;> interval_cases p <;> cases d <;> decide

theorem limits_sound : BankLimitsSound bank where
  rows := rows_sound
  groups c g h := by
    cases c <;> rw [List.eq_of_mem_replicate (show g ∈ List.replicate 4 DerateGroup.initial from h)] <;> decide
  params c := by cases c <;> decide

theorem witness_StepsKeepCeilingsAndBalance : LimitsSound commanded ∧
    (∀ c, CeilingsHold (commanded.ch c) (commanded.params c) (commanded.active.inUse c)) ∧
    EstimatesBalanced overwound where
  left := {
    active := limits_sound
    shadow := ⟨fun v r h => by cases v <;> exact absurd h List.not_mem_nil, limits_sound.groups,
      fun c => by cases c <;> decide⟩
    latch := fun p hp d => by interval_cases p <;> cases d <;> decide
    restrictions := fun e h => by
      rw [List.eq_of_mem_replicate (show e ∈ List.replicate 8 Restriction.invalid from h)]; decide
    profiles := fun v => by cases v <;> decide
    permits := fun v => by cases v <;> decide
    factors := fun c => by cases c <;> decide }
  right := ⟨fun c => by cases c <;> constructor <;> decide, fun _ _ => rfl⟩

theorem witness_StepsKeepBanksChecked : BankAutomaton commanded ∧ BanksChecked commanded :=
  ⟨by constructor <;> decide, fun _ => test_check_passes, by decide, by decide⟩

theorem witness_StepsObeyTheFlags : FlagsObeyed commanded := by constructor <;> decide +kernel

theorem witness_StepsKeepTheMasterLine :
    MasterSound commanded ∧ StandingQuiet commanded.chA ∧ StandingQuiet commanded.chB :=
  ⟨by constructor <;> decide, ⟨by decide⟩, ⟨by decide⟩⟩

theorem witness_StepsKeepTheTables : Shaped commanded ∧ RestrictionsDistinct commanded := by
  refine ⟨⟨⟨rfl, rfl, rfl⟩, ⟨rfl, rfl, rfl⟩, shape_bank, shape_rebasing.shadow, rfl, rfl, rfl⟩, rfl, ?_⟩
  intro i j e o hi _ hv
  have h : e ∈ commanded.restrictions := List.mem_of_getElem? hi
  rw [List.eq_of_mem_replicate (show e ∈ List.replicate 8 Restriction.invalid from h)] at hv
  exact absurd hv (by decide)

theorem witness_ReadRequestsOnlyAnswer_contents :
    Shaped commanded ∧ WithinCapacity commanded ∧ LossBounded commanded :=
  ⟨witness_StepsKeepTheTables.1, witness_StepsKeepCapacities⟩

theorem witness_StepsRouteEventsAndJudgeBeacons : commanded.raised = [] ∧ BeaconsJudged commanded :=
  ⟨rfl, (settled_of (s := commanded) (by decide +kernel)).running.beacons⟩

end Sys2Proof.Tests
end

section
/-! The profile lookup (R50, R51): one equation for each case of `lookup`, the bounds of the interpolated value,
and the three cases of R50 for a whole profile by induction over its rows. -/

namespace Sys2Proof.Profiles
open Sys2Proof Sys2Proof.Machine

/-- The step added to the first row's limit is 0 at least and the whole difference at most where the limit rises. -/
theorem floor_share_of_rise {a t n : Int} (ha : 0 ≤ a) (ht : 0 ≤ t) (htn : t < n) :
    0 ≤ a * t / n ∧ a * t / n ≤ a :=
  ⟨Int.ediv_nonneg (Int.mul_nonneg ha ht) (by omega),
    Int.ediv_le_of_le_mul (by omega) (Int.mul_le_mul_of_nonneg_left htn.le ha)⟩

/-- Where the limit falls, the floor keeps the step at or above the whole difference, which is itself whole. -/
theorem floor_share_of_fall {a t n : Int} (ha : a ≤ 0) (ht : 0 ≤ t) (htn : t < n) :
    a ≤ a * t / n ∧ a * t / n ≤ 0 :=
  ⟨Int.le_ediv_of_mul_le (by omega) (Int.mul_le_mul_of_nonpos_left ha htn.le),
    Int.ediv_le_of_le_mul (by omega) (by simpa using Int.mul_nonpos_of_nonpos_of_nonneg ha ht)⟩

/-- R51: at the depth of its first row the interpolation yields that row's limit exactly. -/
@[simp] theorem interpolate_first_depth (d₀ d₁ : Depth) (v₀ v₁ : Speed) : interpolate d₀ d₁ v₀ v₁ d₀ = v₀ := by
  simp [interpolate]

/-- R51: the interpolated value lies between the two rows' limits. -/
theorem interpolate_between {d₀ d₁ d : Int} (h₀ : d₀ ≤ d) (h₁ : d < d₁) (v₀ v₁ : Int) :
    min v₀ v₁ ≤ interpolate d₀ d₁ v₀ v₁ d ∧ interpolate d₀ d₁ v₀ v₁ d ≤ max v₀ v₁ := by
  have ht : 0 ≤ d - d₀ := by omega
  have htn : d - d₀ < d₁ - d₀ := by omega
  unfold interpolate
  rcases le_total v₀ v₁ with hv | hv
  · obtain ⟨hlow, hhigh⟩ := floor_share_of_rise (Int.sub_nonneg_of_le hv) ht htn
    exact ⟨(min_le_left _ _).trans (le_add_of_nonneg_right hlow),
      (le_sub_iff_add_le'.mp hhigh).trans (le_max_right _ _)⟩
  · obtain ⟨hlow, hhigh⟩ := floor_share_of_fall (Int.sub_nonpos_of_le hv) ht htn
    exact ⟨(min_le_right _ _).trans (sub_le_iff_le_add'.mp hlow),
      (add_le_of_nonpos_right hhigh).trans (le_max_left _ _)⟩

/-- The first row of an ascending profile is the shallowest. -/
theorem head_depth_le {r x : Row} {rest : List Row}
    (asc : (r :: rest).Pairwise fun r r' => r.depth < r'.depth) (hx : x ∈ r :: rest) : r.depth ≤ x.depth := by
  rcases List.mem_cons.mp hx with rfl | hx
  · exact le_rfl
  · exact (List.rel_of_pairwise_cons asc hx).le

section
variable {plane : Nat} {dir : Dir} {d : Depth} {r r' : Row} {rest rows : List Row}

/-- R50, first case: the first row is held at and above its depth. -/
theorem lookup_at_or_above_first (h : d ≤ r.depth) :
    lookup plane dir (r :: rest) d = (r.limits plane).get dir := by
  cases rest <;> simp [lookup, h]

/-- R51 at the head of a profile; at the first row's own depth the hold and the interpolation agree. -/
theorem lookup_in_first_interval (h : r.depth ≤ d) (h' : d < r'.depth) :
    lookup plane dir (r :: r' :: rest) d =
      interpolate r.depth r'.depth ((r.limits plane).get dir) ((r'.limits plane).get dir) d := by
  rcases h.eq_or_lt with rfl | h
  · rw [lookup_at_or_above_first le_rfl, interpolate_first_depth]
  · simp [lookup, h.not_ge, h']

/-- At or below the second row the first row has no say. -/
theorem lookup_below_second (h : r.depth < r'.depth) (h' : r'.depth ≤ d) :
    lookup plane dir (r :: r' :: rest) d = lookup plane dir (r' :: rest) d := by
  simp [lookup, (h.trans_le h').not_ge, h'.not_gt]

/-- The first row of an ascending profile can be dropped at a depth at or below some later row. -/
theorem lookup_drop_first {x : Row} (asc : (r :: r' :: rest).Pairwise fun r r' => r.depth < r'.depth)
    (hx : x ∈ r' :: rest) (hd : x.depth ≤ d) :
    lookup plane dir (r :: r' :: rest) d = lookup plane dir (r' :: rest) d :=
  lookup_below_second (List.rel_of_pairwise_cons asc List.mem_cons_self) ((head_depth_le asc.of_cons hx).trans hd)

/-- R50, second case: the last row is held at and below its depth. -/
theorem lookup_at_or_below_last (asc : rows.Pairwise fun r r' => r.depth < r'.depth)
    (hlast : rows.getLast? = some r) (hd : r.depth ≤ d) :
    lookup plane dir rows d = (r.limits plane).get dir := by
  induction rows with
  | nil => simp at hlast
  | cons a rest ih =>
    cases rest with
    | nil =>
      obtain rfl : a = r := by simpa using hlast
      rfl
    | cons b rest =>
      rw [List.getLast?_cons_cons] at hlast
      rw [lookup_drop_first asc (List.mem_of_getLast? hlast) hd]
      exact ih asc.of_cons hlast

/-- R50, third case: between two neighbouring rows the lookup is the interpolation of R51 between them. -/
theorem lookup_between_rows {i : Nat} (asc : rows.Pairwise fun r r' => r.depth < r'.depth)
    (hr : rows[i]? = some r) (hr' : rows[i + 1]? = some r') (hd : r.depth ≤ d) (hd' : d < r'.depth) :
    lookup plane dir rows d =
      interpolate r.depth r'.depth ((r.limits plane).get dir) ((r'.limits plane).get dir) d := by
  induction rows generalizing i with
  | nil => simp at hr
  | cons a rest ih =>
    cases rest with
    | nil => simp at hr'
    | cons b rest =>
      cases i with
      | zero =>
        obtain rfl : a = r := by simpa using hr
        obtain rfl : b = r' := by simpa using hr'
        exact lookup_in_first_interval hd hd'
      | succ i =>
        rw [List.getElem?_cons_succ] at hr hr'
        rw [lookup_drop_first asc (List.mem_of_getElem? hr) hd]
        exact ih asc.of_cons hr hr'

end

/-- Settles O50: the three cases of R50, each by its own lemma, and the bounds of R51. -/
theorem profilesInterpolateBetweenRows : Obligations.ProfilesInterpolateBetweenRows := by
  intro plane dir rows d asc
  refine ⟨fun r hfirst hd => ?_, fun r hlast hd => lookup_at_or_below_last asc hlast hd,
    fun i r r' hr hr' hd hd' => ?_⟩
  · obtain ⟨rest, rfl⟩ := List.head?_eq_some_iff.mp hfirst
    exact lookup_at_or_above_first hd
  · have hlookup := lookup_between_rows (plane := plane) (dir := dir) asc hr hr' hd hd'
    refine ⟨hlookup, ?_⟩
    rw [hlookup]
    exact interpolate_between hd hd' _ _

end Sys2Proof.Profiles
end

section
/-! An accepted REF frame (R83 to R90): what joining the reference queue does with and without room (R98), the
state steps 1 to 3 leave (`taken`), the state with the frame forwarded too (`sent`), and the changes of state that
may follow, admission to READY (R105) and the end of a stop (R109), which raise and forward nothing. -/

namespace Sys2Proof.References
open Sys2Proof Sys2Proof.Machine

/-! The reference queue (R98). -/

theorem removeOfChannel_eq_none {c : Channel} {q : List RefItem} (h : removeOfChannel c q = none) :
    ∀ x ∈ q, x.chan ≠ c := by
  induction q with
  | nil => simp
  | cons r rest ih =>
    by_cases hr : r.chan = c
    · simp [removeOfChannel, hr] at h
    · simpa [hr] using ih (by simpa [removeOfChannel, hr] using h)

theorem removeOfChannel_eq_some {c : Channel} {q kept : List RefItem} (h : removeOfChannel c q = some kept) :
    ∃ (before after : List RefItem) (r : RefItem), q = before ++ r :: after ∧ kept = before ++ after ∧
      r.chan = c ∧ ∀ x ∈ before, x.chan ≠ c := by
  induction q generalizing kept with
  | nil => simp [removeOfChannel] at h
  | cons r rest ih =>
    by_cases hr : r.chan = c
    · obtain rfl : rest = kept := by simpa [removeOfChannel, hr] using h
      exact ⟨[], rest, r, rfl, rfl, hr, by simp⟩
    · obtain ⟨kept', hkept, rfl⟩ : ∃ a, removeOfChannel c rest = some a ∧ r :: a = kept := by
        simpa [removeOfChannel, hr] using h
      obtain ⟨before, after, r', rfl, rfl, hchan, hbefore⟩ := ih hkept
      exact ⟨r :: before, after, r', rfl, rfl, hchan, by simpa [hr] using hbefore⟩

theorem joinRef_room {s : State} (r : RefItem) (h : s.refQueue.length < 4) :
    s.joinRef r = { s with refQueue := s.refQueue ++ [r] } := if_pos h

/-- R98: in a full queue the oldest frame of the same channel makes room, or the oldest of all. -/
theorem joinRef_full {s : State} (r : RefItem) (h : 4 ≤ s.refQueue.length) :
    (s.joinRef r).ovDown = bump s.ovDown ∧
      ∃ (before after : List RefItem) (old : RefItem), s.refQueue = before ++ old :: after ∧
        (s.joinRef r).refQueue = before ++ after ++ [r] ∧
        (old.chan = r.chan ∧ (∀ x ∈ before, x.chan ≠ r.chan) ∨
          before = [] ∧ ∀ x ∈ s.refQueue, x.chan ≠ r.chan) := by
  unfold State.joinRef
  rw [if_neg h.not_gt]
  refine ⟨rfl, ?_⟩
  cases hq : removeOfChannel r.chan s.refQueue with
  | some kept =>
    obtain ⟨before, after, old, hqueue, rfl, hold⟩ := removeOfChannel_eq_some hq
    exact ⟨before, after, old, hqueue, rfl, .inl hold⟩
  | none =>
    obtain ⟨old, after, hqueue⟩ := List.exists_cons_of_length_pos (Nat.lt_of_lt_of_le (by decide) h)
    exact ⟨[], after, old, hqueue, by simp [hqueue], .inr ⟨rfl, removeOfChannel_eq_none hq⟩⟩

theorem joinRef_ch (s : State) (r : RefItem) (c : Channel) : (s.joinRef r).ch c = s.ch c := by
  unfold State.joinRef
  split <;> cases c <;> rfl

theorem joinRef_notices (s : State) (r : RefItem) : (s.joinRef r).notices = s.notices := by
  unfold State.joinRef
  split <;> rfl

/-! Operations that forward nothing, raise nothing and leave a channel's state. -/

/-- An operation leaves a channel in a state, and leaves the queues of references, notices and waiting events and
the channel's forwarded reference as they were. -/
structure ComesTo (c : Channel) (new : ChanState) (s u : State) : Prop where
  refQueue  : u.refQueue = s.refQueue
  ovDown    : u.ovDown = s.ovDown
  notices   : u.notices = s.notices
  raised    : u.raised = s.raised
  state     : (u.ch c).state = new
  forwarded : (u.ch c).rsv.forwarded = (s.ch c).rsv.forwarded

/-- The same with the channel's state left too. -/
abbrev Silent (c : Channel) (s u : State) : Prop := ComesTo c (s.ch c).state s u

theorem ComesTo.refl {c : Channel} {new : ChanState} {s : State} (h : (s.ch c).state = new) : ComesTo c new s s :=
  ⟨rfl, rfl, rfl, rfl, h, rfl⟩

theorem Silent.refl (c : Channel) (s : State) : Silent c s s := ComesTo.refl rfl

theorem Silent.trans {c : Channel} {s t u : State} (h : Silent c s t) (k : Silent c t u) : Silent c s u where
  refQueue := k.refQueue.trans h.refQueue
  ovDown := k.ovDown.trans h.ovDown
  notices := k.notices.trans h.notices
  raised := k.raised.trans h.raised
  state := k.state.trans h.state
  forwarded := k.forwarded.trans h.forwarded

section
variable (c : Channel) (s : State)

theorem Silent.when (b : Bool) {f : State → State} (h : Silent c s (f s)) : Silent c s (s.when b f) := by
  cases b
  · exact Silent.refl c s
  · exact h

theorem when_false (f : State → State) : s.when false f = s := rfl

theorem Silent.updCh (d : Channel) {f : Chan → Chan} (hstate : ∀ x, (f x).state = x.state)
    (hforwarded : ∀ x, (f x).rsv.forwarded = x.rsv.forwarded) : Silent c s (s.updCh d f) := by
  cases c <;> cases d <;> constructor <;> first | rfl | exact hstate _ | exact hforwarded _

theorem fall_silent (d : Channel) (src : Source) : Silent c s (s.fall d src) :=
  Silent.updCh c s d (fun _ => rfl) fun _ => rfl

/-- A condition that does not hold now raises nothing; its flag may fall (R126). -/
theorem condition_false_silent (old : Bool) (r : Raised) : Silent c s (s.condition old false r) := by
  cases old
  · exact Silent.refl c s
  · exact fall_silent c s r.chan r.src

theorem restartGap_silent : Silent c s (s.restartGap c) :=
  Silent.updCh c s c (fun x => by dsimp only; split_ifs <;> rfl) fun x => by dsimp only; split_ifs <;> rfl

theorem rearmGap_silent (old new : ChanState) : Silent c s (s.rearmGap c old new) := by
  rcases rearmGap_cases s c old new with ⟨-, -, h⟩ | h <;> rw [h]
  · exact Silent.refl c s
  · exact restartGap_silent c s

theorem ceilingsToTarget_silent : Silent c s (s.ceilingsToTarget c) :=
  Silent.updCh c s c (fun _ => rfl) fun _ => rfl

theorem endSubstitution_silent : Silent c s (s.endSubstitution c) :=
  Silent.updCh c s c (fun _ => rfl) fun _ => rfl

theorem restartFbkGap_silent : Silent c s (s.restartFbkGap c) :=
  Silent.updCh c s c (fun _ => rfl) fun _ => rfl

theorem disarm_silent : Silent c s (s.disarm c) := by constructor <;> rfl

/-- The SOU's share of a change of state touches the channel's trip line alone (R138, R141). -/
theorem commandLine_eq : ∃ g : TripLine → TripLine,
    s.commandLine c = s.updCh c fun x => { x with line := g x.line } := by
  by_cases h : (s.ch c).line.closed = (s.ch c).state.closesLine
  · exact ⟨id, by rw [State.commandLine, if_pos h]; cases c <;> rfl⟩
  · exact ⟨fun l => l.command (s.ch c).state.closesLine s.now (s.rbWindow c), if_neg h⟩

theorem commandLine_silent : Silent c s (s.commandLine c) := by
  obtain ⟨g, hg⟩ := commandLine_eq c s
  rw [hg]
  exact Silent.updCh c s c (fun _ => rfl) fun _ => rfl

end

section
variable {c : Channel} {s : State} {new : ChanState}

/-- In a standing state the low alarm conditions are false, and raise nothing (R71). -/
theorem judgeAlarms_silent (h : (s.ch c).state.moving = false) : Silent c s (s.judgeAlarms c) := by
  simp only [State.judgeAlarms, State.setLow1, State.setLow0, h, Bool.false_and]
  exact (((Silent.updCh c s c (fun _ => by rfl) (fun _ => by rfl)).trans
    (condition_false_silent c _ _ _)).trans
    (Silent.updCh c _ c (fun _ => by rfl) (fun _ => by rfl))).trans (condition_false_silent c _ _ _)

/-- In a standing state PERMIT_LOST is false, and raises nothing (R117). -/
theorem judgePermits_silent (h : (s.ch c).state.moving = false) : Silent c s (s.judgePermits c) := by
  simp only [State.judgePermits, h, Bool.false_and]
  exact (Silent.updCh c s c (fun _ => by rfl) (fun _ => by rfl)).trans
    (condition_false_silent c _ _ _)

/-- The RSV's share of a change of state that neither trips, nor leaves BACKOUT, nor begins a wind: no frame is
originated (R97, R114). -/
theorem handReference_silent {old new : ChanState} (htrip : new ≠ .tripped) (hback : old ≠ .backout)
    (hrun : new ≠ .run) : Silent c s (s.handReference c old new) := by
  simp only [State.handReference, htrip, hback, hrun, decide_false, Bool.false_or, Bool.false_and, Bool.and_false,
    when_false]
  exact ((Silent.when c s _ (endSubstitution_silent c s)).trans (rearmGap_silent c _ old new)).trans
    (Silent.when c _ _ (by exact restartFbkGap_silent c _))

/-- The other blocks' share of a change to a standing state from another than BACKOUT (R58, R71, R117). -/
theorem handEnvelope_silent {old new : ChanState} (hstate : (s.ch c).state = new) (hback : old ≠ .backout)
    (hstands : new.moving = false) : Silent c s (s.handEnvelope c old new) := by
  have hnew : new ≠ .backout := by rintro rfl; cases hstands
  have stands : ∀ {x : State}, Silent c s x → (x.ch c).state.moving = false := fun k => by
    rw [k.state, hstate, hstands]
  simp only [State.handEnvelope, hback, hnew, decide_false, when_false]
  have k₁ : Silent c s (s.when (decide (new = .ready)) (State.ceilingsToTarget · c)) :=
    Silent.when c s _ (ceilingsToTarget_silent c s)
  have k₂ := k₁.trans (Silent.when c _ (decide (old.moving ≠ new.moving)) (f := (State.judgeAlarms · c))
    (judgeAlarms_silent (stands k₁)))
  have k₃ := k₂.trans (Silent.when c _ (decide (old.moving ≠ new.moving)) (f := (State.judgePermits · c))
    (judgePermits_silent (stands k₂)))
  exact k₃.trans (Silent.when c _ _ (disarm_silent c _))

/-- A change to a standing state that neither trips nor leaves BACKOUT forwards and raises nothing. -/
theorem changeState_comesTo (hne : (s.ch c).state ≠ new) (hback : (s.ch c).state ≠ .backout)
    (hstands : new.moving = false) (htrip : new ≠ .tripped) : ComesTo c new s (s.changeState c new) := by
  have hrun : new ≠ .run := by rintro rfl; cases hstands
  have k : Silent c (s.updCh c fun x => { x with state := new }) (s.changeState c new) := by
    unfold State.changeState
    dsimp only
    rw [if_neg hne]
    have k := handReference_silent (c := c) (s := s.updCh c fun x => { x with state := new }) htrip hback hrun
    exact (k.trans (handEnvelope_silent (by rw [k.state, State.updCh_ch_same]) hback hstands)).trans
      (commandLine_silent c _)
  obtain ⟨hqueue, hov, hnotices, hraised, hstate, hforwarded⟩ := k
  constructor <;> simp [*]

end

/-! Admission to READY (R105) and the end of a stop (R109). -/

/-- Blocking is read from the active bank and the flags alone (R104). -/
theorem hasBlocking_updCh (s : State) (c d : Channel) {f : Chan → Chan} (h : ∀ x, (f x).flags = x.flags) :
    (s.updCh c f).hasBlocking d = s.hasBlocking d := by
  refine blockedBy_congr (s := s) ?_ ?_ ?_ d .stop <;> cases c <;> first | rfl | exact h _

theorem settle_hasBlocking (s : State) (c : Channel) : s.settle.hasBlocking c = s.hasBlocking c :=
  blockedBy_congr (s := s) (u := s.settle) rfl rfl rfl c .stop

/-- The hand-offs of an admission, one by one (R102, R76, R90), the trip line's last. -/
theorem changeState_ready {s : State} {c : Channel} (h : (s.ch c).state = .held) : ∃ g : TripLine → TripLine,
    s.changeState c .ready =
      (((s.updCh c fun x => { x with state := .ready }).restartGap c).ceilingsToTarget c).updCh c
        fun x => { x with line := g x.line } := by
  obtain ⟨g, hg⟩ := commandLine_eq c
    (((s.updCh c fun x => { x with state := .ready }).restartGap c).ceilingsToTarget c)
  refine ⟨g, Eq.trans ?_ hg⟩
  simp [State.changeState, h, State.handReference, State.handEnvelope, State.when, State.rearmGap, expiryOutlasts,
    ChanState.moving]

theorem changeState_ready_hasBlocking {s : State} {c : Channel} (h : (s.ch c).state = .held) :
    (s.changeState c .ready).hasBlocking c = s.hasBlocking c := by
  obtain ⟨g, hg⟩ := changeState_ready h
  rw [hg, hasBlocking_updCh _ _ _ (fun _ => by rfl), State.ceilingsToTarget,
    hasBlocking_updCh _ _ _ (fun _ => by rfl), State.restartGap,
    hasBlocking_updCh _ _ _ (by intro x; dsimp only; split_ifs <;> rfl),
    hasBlocking_updCh _ _ _ (fun _ => by rfl)]

/-- The gap timer of a channel in use that restarts with LINK_LOSS false (R90). -/
theorem restartGap_gapTimer {s : State} {c : Channel} (hidle : (s.ch c).state ≠ .idle)
    (hloss : (s.ch c).rsv.linkLoss = false) : ((s.restartGap c).ch c).rsv.gapTimer =
      some ⟨s.now, gapTimeout (s.params c) (s.ch c).state⟩ := by
  simp [State.restartGap, hidle, hloss]

theorem changeState_ready_gapTimer {s : State} {c : Channel} (h : (s.ch c).state = .held)
    (hloss : (s.ch c).rsv.linkLoss = false) : ((s.changeState c .ready).ch c).rsv.gapTimer =
      some ⟨s.now, gapTimeout (s.params c) .ready⟩ := by
  obtain ⟨g, hg⟩ := changeState_ready h
  rw [hg]
  simp [State.ceilingsToTarget, restartGap_gapTimer, hloss]

/-- R105: the state in which a judgement of admission leaves a channel that has been HELD before it. -/
def admittedState (z : State) (c : Channel) : ChanState :=
  if (z.ch c).state = .held ∧ z.admissible c = true then .ready else (z.ch c).state

/-- R105, R90: admission raises and forwards nothing, and leaves the blocking flags and a gap timer just
started. -/
theorem judgeAdmission_outcome {z : State} {c : Channel} (hloss : (z.ch c).rsv.linkLoss = false)
    (hgap : (z.ch c).rsv.gapTimer = some ⟨z.now, gapTimeout (z.params c) .ready⟩) {w : State}
    (hw : w = z.judgeAdmission c (decide ((z.ch c).state = .held))) :
    ComesTo c (admittedState z c) z w ∧ w.hasBlocking c = z.hasBlocking c ∧
      (w.ch c).rsv.gapTimer = (z.ch c).rsv.gapTimer := by
  by_cases h : (z.ch c).state = .held ∧ z.admissible c = true
  · obtain ⟨hheld, hadm⟩ := h
    have hready : w = z.changeState c .ready := by simp [hw, State.judgeAdmission, hheld, hadm]
    rw [hready, admittedState, if_pos ⟨hheld, hadm⟩]
    exact ⟨changeState_comesTo (by simp [hheld]) (by simp [hheld]) rfl (by simp),
      changeState_ready_hasBlocking hheld, (changeState_ready_gapTimer hheld hloss).trans hgap.symm⟩
  · have hsame : w = z := by
      rw [hw, State.judgeAdmission, if_neg (by simpa using h)]
    rw [hsame, admittedState, if_neg h]
    exact ⟨ComesTo.refl rfl, rfl, rfl⟩

/-- R109: a channel in STOPPING goes to HELD exactly where its forwarded reference is 0 and it is at rest. -/
theorem judgeStopEnd_comesTo {z : State} {c : Channel} (h : (z.ch c).state = .stopping) :
    ComesTo c (if z.atRest c = true then .held else .stopping) z (z.judgeStopEnd c) := by
  unfold State.judgeStopEnd
  by_cases hrest : z.atRest c = true
  · rw [if_pos (And.intro h hrest), if_pos hrest]
    exact changeState_comesTo (by simp [h]) (by simp [h]) rfl (by simp)
  · rw [if_neg (fun k : _ ∧ _ => hrest k.2), if_neg hrest]
    exact ComesTo.refl h

theorem judgeStopEnd_eq {z : State} {c : Channel} (h : (z.ch c).state ≠ .stopping) : z.judgeStopEnd c = z :=
  if_neg fun k => h k.1

/-! Steps 1 to 3 of an accepted frame (R82, R83). -/

/-- The reference context of a channel with an accepted frame noted: control byte and SRC, arrival and toggle, and
LINK_LOSS false. -/
def noted (s : State) (c : Channel) (f : LinkFrame) : State :=
  s.updCh c fun x => { x with rsv := { x.rsv with
    lastControl := refControl f, lastController := f.src, lastAccepted := some s.now,
    lastToggle := some (refToggle f), linkLoss := false } }

/-- The state in which an accepted frame is acted on. -/
def taken (s : State) (c : Channel) (f : LinkFrame) : State := (s.keepController c f).acceptRef c f

/-- The state with an accepted frame forwarded at a speed. -/
def sent (s : State) (c : Channel) (f : LinkFrame) (v : Speed) : State := (taken s c f).forward c f v

section
variable (s : State) (c : Channel) (f : LinkFrame) (v : Speed)

theorem taken_eq : taken s c f =
    ((noted s c f).when (s.ch c).rsv.linkLoss (State.fall · c .linkLoss)).restartGap c := by
  cases c <;> rfl

theorem noted_silent : Silent c s (noted s c f) := Silent.updCh c s c (fun _ => rfl) fun _ => rfl

theorem taken_silent : Silent c s (taken s c f) := by
  rw [taken_eq]
  exact ((noted_silent s c f).trans (Silent.when c _ _ (fall_silent c _ c .linkLoss))).trans
    (restartGap_silent c _)

theorem taken_kept : Kept (noted s c f) (taken s c f) := by
  rw [taken_eq]
  exact (Kept.when _ _ (fall_kept _ c .linkLoss)).trans (restartGap_kept _ c)

theorem sent_eq : sent s c f v = ((taken s c f).setForwarded c v).joinRef (forwardedItem c f v) := rfl

theorem sent_kept : Kept (noted s c f) (sent s c f v) := by
  rw [sent_eq]
  exact ((taken_kept s c f).trans (setForwarded_kept _ c v)).trans (joinRef_kept _ _)

theorem sent_ch : (sent s c f v).ch c =
    { (taken s c f).ch c with rsv := { ((taken s c f).ch c).rsv with forwarded := v } } := by
  rw [sent_eq, joinRef_ch, State.setForwarded, State.updCh_ch_same]

theorem sent_state : ((sent s c f v).ch c).state = (s.ch c).state := by
  rw [sent_ch]
  exact (taken_silent s c f).state

theorem sent_forwarded : ((sent s c f v).ch c).rsv.forwarded = v := by rw [sent_ch]

theorem sent_notices : (sent s c f v).notices = s.notices := by
  rw [sent_eq, joinRef_notices, State.setForwarded, State.updCh_notices, (taken_silent s c f).notices]

theorem sent_raised : (sent s c f v).raised = s.raised := by
  rw [sent_eq, joinRef_raised, State.setForwarded, State.updCh_raised, (taken_silent s c f).raised]

theorem setForwarded_taken_refQueue : ((taken s c f).setForwarded c v).refQueue = s.refQueue := by
  rw [State.setForwarded, State.updCh_refQueue, (taken_silent s c f).refQueue]

theorem setForwarded_taken_ovDown : ((taken s c f).setForwarded c v).ovDown = s.ovDown := by
  rw [State.setForwarded, State.updCh_ovDown, (taken_silent s c f).ovDown]

end

section
variable {s u : State} {c : Channel} {f : LinkFrame}

/-- R98 with room in the reference queue. -/
theorem sent_room (v : Speed) (h : s.refQueue.length < 4) :
    (sent s c f v).refQueue = s.refQueue ++ [forwardedItem c f v] ∧ (sent s c f v).ovDown = s.ovDown := by
  have hq := setForwarded_taken_refQueue s c f v
  rw [sent_eq, joinRef_room _ (by rwa [hq])]
  exact ⟨congrArg (· ++ _) hq, setForwarded_taken_ovDown s c f v⟩

/-- R98 with 4 references waiting. -/
theorem sent_full (v : Speed) (h : 4 ≤ s.refQueue.length) :
    (sent s c f v).ovDown = bump s.ovDown ∧
      ∃ (before after : List RefItem) (r : RefItem), s.refQueue = before ++ r :: after ∧
        (sent s c f v).refQueue = before ++ after ++ [forwardedItem c f v] ∧
        (r.chan = c ∧ (∀ x ∈ before, x.chan ≠ c) ∨ before = [] ∧ ∀ x ∈ s.refQueue, x.chan ≠ c) := by
  have hq := setForwarded_taken_refQueue s c f v
  have hfull := joinRef_full (forwardedItem c f v) (h.trans_eq (congrArg List.length hq.symm))
  rwa [setForwarded_taken_ovDown, hq] at hfull

theorem taken_env : ((taken s c f).ch c).env = (s.ch c).env := by
  rw [taken_eq, State.restartGap, State.updCh_ch_same]
  have h : (((noted s c f).when (s.ch c).rsv.linkLoss (State.fall · c .linkLoss)).ch c).env = (s.ch c).env := by
    cases (s.ch c).rsv.linkLoss <;> simp [State.when, noted, State.fall, Chan.setFlag]
  split_ifs <;> exact h

/-- R87: the ramp speed of a channel is not changed by the frame it has just accepted. -/
theorem taken_rampSpeed : (taken s c f).rampSpeed c = s.rampSpeed c := by
  have hparams : (taken s c f).params c = s.params c :=
    ((taken_kept s c f).params c).trans (State.updCh_params s c c _)
  simp only [State.rampSpeed, State.permitOf, (taken_silent s c f).forwarded, taken_env, hparams]

/-- R90: an accepted frame restarts the gap timer with the timeout of the state in force. -/
theorem taken_gapTimer (h : (s.ch c).state ≠ .idle) :
    ((taken s c f).ch c).rsv.gapTimer = some ⟨s.now, gapTimeout (s.params c) (s.ch c).state⟩ := by
  have k := Silent.when c (noted s c f) (s.ch c).rsv.linkLoss (f := (State.fall · c .linkLoss))
    (fall_silent c _ c .linkLoss)
  have kept := Kept.when (noted s c f) (s.ch c).rsv.linkLoss (f := (State.fall · c .linkLoss))
    (fall_kept _ c .linkLoss)
  have hstate := k.state.trans (noted_silent s c f).state
  rw [taken_eq, restartGap_gapTimer (hstate ▸ h) ((kept.ch c).linkLoss.trans (by simp [noted])), hstate,
    kept.now, kept.params]
  simp [noted]

theorem updCh_congr {g g' : Chan → Chan} (h : g (s.ch c) = g' (s.ch c)) : s.updCh c g = s.updCh c g' := by
  cases c
  · exact congrArg (fun y => { s with chA := y }) h
  · exact congrArg (fun y => { s with chB := y }) h

/-- What an accepted frame notes stays noted through everything that keeps what routing keeps. -/
theorem refTaken_of_kept (h : Kept (noted s c f) u) : RefTaken (u.ch c) f s.now := by
  have k := h.ch c
  rw [noted, State.updCh_ch_same] at k
  exact ⟨k.lastControl, k.lastController, k.lastAccepted, k.lastToggle, k.linkLoss⟩

theorem lossCount_of_kept (h : Kept (noted s c f) u) : (u.ch c).rsv.lossCount = (s.ch c).rsv.lossCount := by
  rw [(h.ch c).lossCount, noted, State.updCh_ch_same]

theorem ctr_of_kept (h : Kept (noted s c f) u) : (u.ch c).ctr = (s.ch c).ctr := by
  rw [(h.ch c).ctr, noted, State.updCh_ch_same]

theorem params_of_kept (h : Kept (noted s c f) u) : u.params c = s.params c :=
  (h.params c).trans (State.updCh_params s c c _)

theorem now_of_kept (h : Kept (noted s c f) u) : u.now = s.now :=
  h.now.trans (State.updCh_now s c _)

theorem pendingCommit_of_kept (h : Kept (noted s c f) u) : u.pendingCommit = s.pendingCommit :=
  h.pendingCommit.trans (State.updCh_pendingCommit s c _)

/-- The frame of a handled REF frame, from the state with the frame noted. -/
theorem refFrameKept_of_kept (h : Kept (noted s c f) u) : RefFrameKept s u c := by
  obtain ⟨hcontrol, hcontroller, harrival, htoggle, hloss⟩ := refTaken_of_kept h
  refine ⟨?_⟩
  rw [hcontrol, hcontroller, harrival, htoggle, hloss, lossCount_of_kept h]
  rwa [noted, updCh_congr (g' := fun x => { x with rsv := { x.rsv with
    lastAccepted := some s.now, lastToggle := some (refToggle f), lastControl := refControl f,
    lastController := f.src, linkLoss := false, lossCount := (s.ch c).rsv.lossCount } }) rfl] at h

end

/-! The whole handling of an accepted frame (R80 to R84, R87, R96). -/

theorem advance_refArrives {s : State} {c : Channel} {f : LinkFrame} (t : Micros) (h : RefArrives s c f) :
    RefArrives (s.advance t) c f := by
  obtain ⟨⟨⟨hreset, hbeacons⟩, hraised, hcommit⟩, hkind, hlength, ⟨hown, hother⟩⟩ := h
  have hrunning : Running (s.advance t) := ⟨hreset, hbeacons.congr (by constructor <;> rfl) rfl rfl⟩
  exact ⟨⟨hrunning, hraised, hcommit⟩, hkind, hlength, ⟨hown, hother⟩⟩

/-- A frame accepted at a moment is accepted in the state that the timebase has brought to it. -/
theorem advance_refAccepted {s : State} {c : Channel} {f : LinkFrame} {t : Micros}
    (h : RefAccepted s c f (max s.now t)) : RefAccepted (s.advance t) c f (s.advance t).now := by
  obtain ⟨harrives, hspaced, hfresh⟩ := h
  refine ⟨advance_refArrives t harrives, ?_, ?_⟩
  · simpa only [Spaced, State.advance_ch, State.advance_params, State.advance_now] using hspaced
  · simpa only [State.advance_ch] using hfresh

theorem channelAt_of_servesOnly {s : State} {c : Channel} {a : Byte} (h : ServesOnly s c a) :
    s.channelAt a = some c := by
  obtain ⟨⟨huse, haddr⟩, hother⟩ := h
  cases c with
  | a => simp [State.channelAt, huse, haddr]
  | b =>
    have hnot : ¬ (s.active.inUse .a = true ∧ (s.params .a).driveAddr = (a.toNat : Int)) := hother
    simp [State.channelAt, huse, haddr, hnot]

/-- A REF frame that has arrived for a channel is handled whole, then the beacons are judged (R80, R147). -/
theorem exec_refFrameReceived {s : State} {c : Channel} {f : LinkFrame} (t : Micros) (h : RefArrives s c f) :
    exec (.refFrameReceived t f) s = .next ((s.advance t).handleRef c f).settle := by
  have hat := channelAt_of_servesOnly (advance_refArrives t h).serves
  have htake : (s.advance t).takeUp f = (s.advance t).handleRef c f := by
    simp [State.takeUp, hat, h.kind, h.length]
  show outOfReset t s (State.takeUp · f) = _
  rw [outOfReset_eq t h.settled.running.outOfReset, htake]

theorem tooEarly_of_spaced {s : State} {c : Channel} (h : Spaced s c s.now) : s.tooEarly c = false := by
  unfold State.tooEarly
  split
  · next last hlast => exact decide_eq_false (h last hlast).not_gt
  · rfl

section
variable {s : State} {c : Channel} {f : LinkFrame}

/-- R96: while the channel is substituting an accepted frame is absorbed. -/
theorem handleRef_absorbed (h : RefAccepted s c f s.now) (hsub : (s.ch c).rsv.substituting = true) :
    s.handleRef c f = taken s c f := by
  simp [State.handleRef, tooEarly_of_spaced h.spaced, h.fresh, hsub, taken]

/-- An accepted frame whose action is to be forwarded at a speed, nothing being raised: the end of a stop and
admission are judged (R105, R109). -/
theorem handleRef_sent {v : Speed} (h : RefAccepted s c f s.now) (hsub : (s.ch c).rsv.substituting = false)
    (hact : (taken s c f).actRef c f (s.request c f) = sent s c f v) :
    s.handleRef c f = ((((sent s c f v).judgeStopEnd c).routeAll.judgeAdmission c
      (decide ((s.ch c).state = .held))).routeAll).judgeCommit := by
  have hraised : (sent s c f v).raised = [] := (sent_raised s c f v).trans h.arrives.settled.raised
  have hrequest : clampTo (-(s.params c).vMax) (s.params c).vMax (refSpeed f) = s.request c f := rfl
  simp only [State.handleRef, tooEarly_of_spaced h.spaced, h.fresh, hsub, Bool.false_eq_true, if_false]
  rw [← taken, hrequest, hact, routeAll_nil hraised]

/-- The gap timer of a standing channel whose frame has been forwarded, in the terms of that state (R90). -/
theorem sent_gapTimer (v : Speed) (hidle : (s.ch c).state ≠ .idle) (hstands : (s.ch c).state.moving = false) :
    ((sent s c f v).ch c).rsv.gapTimer =
      some ⟨(sent s c f v).now, gapTimeout ((sent s c f v).params c) .ready⟩ := by
  have htimeout : gapTimeout (s.params c) (s.ch c).state = gapTimeout (s.params c) .ready := by
    rw [gapTimeout, hstands]
    rfl
  rw [sent_ch, taken_gapTimer hidle, htimeout, params_of_kept (sent_kept s c f v), now_of_kept (sent_kept s c f v)]

/-- R105: HELD is left where nothing blocks, feedback is valid and fewer than 3 losses are counted; the frame just
accepted has made LINK_LOSS false. -/
theorem admittedState_sent (v : Speed) : admittedState (sent s c f v) c =
    if (s.ch c).state = .held ∧ (sent s c f v).hasBlocking c = false ∧ (s.ch c).ctr.feedbackValid = true ∧
      (s.ch c).rsv.lossCount < 3 then .ready else (s.ch c).state := by
  have k := sent_kept s c f v
  simp [admittedState, State.admissible, sent_state, ctr_of_kept k, lossCount_of_kept k,
    (refTaken_of_kept k).linkLoss, and_assoc]

/-- R84, R90, R105: in HELD and TRIPPED, and in READY on a request of 0, the action is to forward 0, and admission
is judged. -/
theorem handleRef_standing (h : RefAccepted s c f s.now) (hsub : (s.ch c).rsv.substituting = false)
    (hstate : (s.ch c).state = .held ∨ (s.ch c).state = .tripped ∨
      (s.ch c).state = .ready ∧ s.request c f = 0) {w : State} (hw : w = s.handleRef c f) :
    Kept (noted s c f) w ∧ ComesTo c (admittedState (sent s c f 0) c) (sent s c f 0) w ∧
      w.hasBlocking c = (sent s c f 0).hasBlocking c ∧
      (w.ch c).rsv.gapTimer = some ⟨s.now, gapTimeout (s.params c) .ready⟩ := by
  have hact : (taken s c f).actRef c f (s.request c f) = sent s c f 0 := by
    rcases hstate with hs | hs | ⟨hs, hzero⟩
    · simp only [State.actRef, (taken_silent s c f).state, hs, sent]
    · simp only [State.actRef, (taken_silent s c f).state, hs, sent]
    · simp only [State.actRef, (taken_silent s c f).state, hs, sent, hzero, if_true]
  obtain ⟨hidle, hstill, hstands⟩ : (s.ch c).state ≠ .idle ∧ (s.ch c).state ≠ .stopping ∧
      (s.ch c).state.moving = false := by
    rcases hstate with hs | hs | ⟨hs, -⟩ <;> simp [hs, ChanState.moving]
  have hkept := sent_kept s c f 0
  have hraised : (sent s c f 0).raised = [] := (sent_raised s c f 0).trans h.arrives.settled.raised
  have hgap := sent_gapTimer (f := f) 0 hidle hstands
  obtain ⟨hcomes, hblocking, htimer⟩ := judgeAdmission_outcome (refTaken_of_kept hkept).linkLoss hgap rfl
  have hjudged := hkept.trans (judgeAdmission_kept (sent s c f 0) c
    (decide (((sent s c f 0).ch c).state = .held)))
  rw [handleRef_sent h hsub hact, judgeStopEnd_eq (by rwa [sent_state]), routeAll_nil hraised,
    ← sent_state s c f 0, routeAll_nil (hcomes.raised.trans hraised),
    judgeCommit_of_none ((pendingCommit_of_kept hjudged).trans h.arrives.settled.noCommit)] at hw
  subst hw
  refine ⟨hjudged, hcomes, hblocking, ?_⟩
  rw [htimer, hgap, now_of_kept hkept, params_of_kept hkept]

/-- R87, R109: in STOPPING the action is to forward the ramp speed, and the end of the stop is judged. -/
theorem handleRef_stopping (h : RefAccepted s c f s.now) (hsub : (s.ch c).rsv.substituting = false)
    (hs : (s.ch c).state = .stopping) {w : State} (hw : w = s.handleRef c f) :
    Kept (noted s c f) w ∧ ComesTo c (if (sent s c f (s.rampSpeed c)).atRest c = true then .held else .stopping)
      (sent s c f (s.rampSpeed c)) w := by
  have hact : (taken s c f).actRef c f (s.request c f) = sent s c f (s.rampSpeed c) := by
    simp only [State.actRef, (taken_silent s c f).state, hs, taken_rampSpeed, sent]
  have hraised : (sent s c f (s.rampSpeed c)).raised = [] :=
    (sent_raised s c f _).trans h.arrives.settled.raised
  have hcomes := judgeStopEnd_comesTo ((sent_state s c f (s.rampSpeed c)).trans hs)
  have hjudged := (sent_kept s c f (s.rampSpeed c)).trans (judgeStopEnd_kept _ c)
  have hnot : ∀ z : State, z.judgeAdmission c (decide ((s.ch c).state = .held)) = z := fun z => by
    simp [State.judgeAdmission, hs]
  rw [handleRef_sent h hsub hact, routeAll_nil (hcomes.raised.trans hraised), hnot,
    routeAll_nil (hcomes.raised.trans hraised),
    judgeCommit_of_none ((pendingCommit_of_kept hjudged).trans h.arrives.settled.noCommit)] at hw
  subst hw
  exact ⟨hjudged, hcomes⟩

/-- R103: a channel in STOPPING is at rest where feedback is valid, the speed is within v_rest and its frame has
just been forwarded as 0. -/
theorem sent_atRest {v : Speed} (hs : (s.ch c).state = .stopping) : (sent s c f v).atRest c = true ↔
    v = 0 ∧ (s.ch c).ctr.feedbackValid = true ∧ mag (s.ch c).ctr.vMeas ≤ (s.params c).vRest := by
  have k := sent_kept s c f v
  simp [State.atRest, sent_state, hs, ctr_of_kept k, params_of_kept k, sent_forwarded, and_comm]

end

/-! The two statements. -/

/-- Settles O46: the accepted frame is noted and forwarded as 0, then admission is judged. -/
theorem standingChannelsForwardZero : Obligations.StandingChannelsForwardZero := by
  intro t s c f hacc hsub hstate
  have hacc' := advance_refAccepted hacc
  obtain ⟨hkept, hcomes, hblocking, htimer⟩ := handleRef_standing hacc' (by rwa [State.advance_ch])
    (by rwa [State.advance_ch]) rfl
  have hkeptAll := hkept.trans (settle_kept _)
  refine ⟨_, exec_refFrameReceived t hacc.arrives, refFrameKept_of_kept hkeptAll, refTaken_of_kept hkeptAll,
    ?_, fun hroom => ?_, fun hfull => ?_, ?_, ?_, ?_, ?_⟩
  · simp [hcomes.forwarded, sent_forwarded]
  · obtain ⟨hqueue, hov⟩ := sent_room (s := s.advance t) (c := c) (f := f) 0 hroom
    exact ⟨hcomes.refQueue.trans hqueue, hcomes.ovDown.trans hov⟩
  · obtain ⟨hov, before, after, r, hbefore, hafter, hold⟩ :=
      sent_full (s := s.advance t) (c := c) (f := f) 0 hfull
    exact ⟨hcomes.ovDown.trans hov, before, after, r, hbefore, hcomes.refQueue.trans hafter, hold⟩
  · simpa using lossCount_of_kept hkeptAll
  · simpa [gapTimeout, ChanState.moving] using htimer
  · rw [settle_hasBlocking, State.settle_ch, hcomes.state, hblocking, admittedState_sent, State.advance_ch]
  · exact hcomes.notices.trans (sent_notices _ c f 0)

/-- Settles O49: with no substitution the frame goes out with the ramp speed and the end of the stop is judged;
with one it is only noted. -/
theorem stoppingChannelsRampDown : Obligations.StoppingChannelsRampDown := by
  intro t s c f hacc hs hroom
  have hacc' := advance_refAccepted hacc
  have hs' : ((s.advance t).ch c).state = .stopping := by rwa [State.advance_ch]
  have hspeed : (s.advance t).rampSpeed c = s.stepped c := by cases c <;> rfl
  have hkept : Kept (noted (s.advance t) c f) ((s.advance t).handleRef c f) := by
    cases hsub : ((s.advance t).ch c).rsv.substituting
    · exact (handleRef_stopping hacc' hsub hs' rfl).1
    · rw [handleRef_absorbed hacc' hsub]
      exact taken_kept _ c f
  have hkeptAll := hkept.trans (settle_kept _)
  refine ⟨_, s.stepped c, exec_refFrameReceived t hacc.arrives, refFrameKept_of_kept hkeptAll,
    refTaken_of_kept hkeptAll, ?_, rfl, fun hsub => ?_, fun hsub => ?_⟩
  · simpa using lossCount_of_kept hkeptAll
  · obtain ⟨-, hcomes⟩ := handleRef_stopping hacc' (by rwa [State.advance_ch]) hs' rfl
    rw [hspeed] at hcomes
    obtain ⟨hqueue, -⟩ := sent_room (s := s.advance t) (c := c) (f := f) (s.stepped c) hroom
    refine ⟨hcomes.refQueue.trans hqueue, ?_, ?_⟩
    · simp [hcomes.forwarded, sent_forwarded]
    · rw [State.settle_ch, hcomes.state]
      simp only [sent_atRest hs', State.advance_ch, State.advance_params]
  · have habsorbed := handleRef_absorbed hacc' (by rwa [State.advance_ch])
    obtain ⟨hqueue, -, -, -, hstate, hforwarded⟩ := taken_silent (s.advance t) c f
    rw [habsorbed]
    exact ⟨hqueue, by simp [hforwarded], by simp [hstate, hs]⟩

end Sys2Proof.References
end

section
/-! The Table Bank's requests: what a request that cancels a pending commit leaves (BANK COPY, R159; COMMIT CANCEL,
R164), and the checks of a BANK COMMIT in their order (R163), with what a commit applied at once leaves of the banks
and of the replies (R165). -/

namespace Sys2Proof.BankRequests
open Sys2Proof Sys2Proof.Machine

/-! The engine's answer (R175). -/

/-- The state in which the engine executes the head request: the request has left the queue. -/
def serving (s : State) (t : Micros) (rest : List Request) : State := { s.advance t with requests := rest }

theorem serving_reply (s : State) (t : Micros) (q : Request) (rest : List Request) (st : Status)
    (data : List Byte) : (serving s t rest).reply q st data = s.answered t q rest st data := rfl

section
variable {s : State} {q : Request} {rest : List Request} {r : Req} {f : Req → Option (Request → State → State)}
  {g : Request → State → State}

/-- The effect of a ready request's rule, then the beacons' judgement. -/
theorem engine_settled (t : Micros) (h : RequestReady s q rest r) (hf : f r = some g) :
    outOfReset t s (State.engine · f) = .next (g q (serving s t rest)).settle := by
  rw [outOfReset_eq t h.running.outOfReset, engine_eq h t hf, serving]

/-- Where the rule changes nothing the beacons show, its effect is the whole outcome (R147). -/
theorem engine_quiet (t : Micros) (h : RequestReady s q rest r) (hf : f r = some g) {u : State}
    (hu : g q (serving s t rest) = u) (hlights : SameLights s u) (hA : u.chA.beacon = s.chA.beacon)
    (hB : u.chB.beacon = s.chB.beacon) : outOfReset t s (State.engine · f) = .next u := by
  rw [engine_settled t h hf, hu, settle_eq (h.running.beacons.congr hlights hA hB)]

/-- A rule that only answers in the state at hand leaves exactly the state with its reply waiting. -/
theorem engine_replies (t : Micros) (h : RequestReady s q rest r) (hf : f r = some g) {st : Status}
    {data : List Byte} (hg : g q (serving s t rest) = (serving s t rest).reply q st data) :
    outOfReset t s (State.engine · f) = .next (s.answered t q rest st data) :=
  engine_quiet t h hf (hg.trans (serving_reply s t q rest st data)) (by constructor <;> rfl) rfl rfl

end

/-! The cancelling of a pending commit (R164). -/

/-- A notice of the part is a NOTE: it joins the queue where there is room, and a full queue drops it (R133,
R134). -/
theorem offer_partNotice (s : State) (src : PartSource) (value : Option Int) (o : Option Offence) :
    s.offer (partNotice src value o) = { s with
      seq := (s.seq + 1) % 256
      notices := s.notices ++ if s.notices.length < 16 then [⟨s.seq, partNotice src value o⟩] else []
      noticesLost := s.noticesLost || decide (16 ≤ s.notices.length) } := by
  unfold State.offer
  by_cases hroom : s.notices.length < 16
  · simp [hroom]
  · simp [hroom, partNotice, makeRoom, Nat.le_of_not_lt hroom]

theorem cancelCommit_of_none {s : State} (h : s.pendingCommit = false) (cause : Int) : s.cancelCommit cause = s := by
  simp [State.cancelCommit, h]

theorem cancelCommit_of_pending {s : State} (h : s.pendingCommit = true) (cause : Int) :
    s.cancelCommit cause = { s with pendingCommit := false }.offer (partNotice .commitCancelled (some cause) none) :=
  if_pos h

/-- The cancelling touches the commit, the notice queue with its counter and its status, and nothing else. -/
theorem cancelCommit_frame (s : State) (cause : Int) : s.cancelCommit cause = { s with
    pendingCommit := (s.cancelCommit cause).pendingCommit
    seq := (s.cancelCommit cause).seq
    notices := (s.cancelCommit cause).notices
    noticesLost := (s.cancelCommit cause).noticesLost } := by
  cases h : s.pendingCommit
  · rw [cancelCommit_of_none h]
  · rw [cancelCommit_of_pending h, offer_partNotice]

theorem cancelCommit_cancels (s : State) (cause : Int) : CancelsCommit s (s.cancelCommit cause) cause := by
  cases h : s.pendingCommit
  · rw [cancelCommit_of_none h]
    constructor <;> simp [h]
  · rw [cancelCommit_of_pending h, offer_partNotice]
    constructor <;> simp +contextual [h, Nat.not_le_of_lt, Nat.not_lt_of_le]

/-- A request that cancels a pending commit, leaves the shadow bank as given and is answered, changes nothing
else. -/
theorem engine_cancels (t : Micros) {s : State} {q : Request} {rest : List Request} {r : Req}
    {f : Req → Option (Request → State → State)} {g : Request → State → State} (h : RequestReady s q rest r)
    (hf : f r = some g) {cause : Int} {b : Bank} {shadowState : ShadowState} {st : Status} {data : List Byte}
    (hg : g q (serving s t rest) = { (serving s t rest).cancelCommit cause with
      shadow := b, shadowState := shadowState }.reply q st data) :
    ∃ u : State, outOfReset t s (State.engine · f) = .next u ∧ CancelsCommit s u cause ∧
      u = { s.answered t q rest st data with
        shadow := b
        shadowState := shadowState
        pendingCommit := u.pendingCommit
        seq := u.seq
        notices := u.notices
        noticesLost := u.noticesLost } := by
  obtain ⟨hcommit, hquiet, hcounted, hnoticed, hdropped⟩ := cancelCommit_cancels (serving s t rest) cause
  rw [cancelCommit_frame] at hg
  exact ⟨_, engine_quiet t h hf hg (by constructor <;> rfl) rfl rfl,
    ⟨hcommit, hquiet, hcounted, hnoticed, hdropped⟩, rfl⟩

/-! BANK COPY and COMMIT CANCEL, case by case. -/

theorem runBankCopy_checking {s : State} (q : Request) (h : s.shadowState = .checking) :
    runBankCopy q s = s.reply q .busy [] := if_pos h

theorem runBankCopy_copies {s : State} (q : Request) (h : s.shadowState ≠ .checking) :
    runBankCopy q s = { s.cancelCommit 1 with
        shadow := s.active, shadowState := if s.activeLoaded then .valid else .empty }.reply q .ok
      (fieldU8 (if s.activeLoaded then 3 else 0 : Nat)) := by
  rw [runBankCopy, if_neg h]
  cases s.activeLoaded <;> rfl

theorem runCommitCancel_cancels {s : State} (q : Request) (h : s.pendingCommit = true) :
    runCommitCancel q s = { s.cancelCommit 3 with
      shadow := s.shadow, shadowState := s.shadowState }.reply q .ok [] := by
  rw [runCommitCancel, if_pos h, cancelCommit_frame]

theorem runCommitCancel_none {s : State} (q : Request) (h : s.pendingCommit = false) :
    runCommitCancel q s = s.reply q .refusedState [] := by
  simp [runCommitCancel, h]

/-- Settles O21: each request's rule by cases, the accepted ones as requests that cancel. -/
theorem copyAndCancel : Obligations.CopyAndCancel := by
  intro t s q rest
  refine ⟨fun h hs => engine_replies t h rfl (runBankCopy_checking q hs),
    fun h hs => engine_cancels t h rfl (runBankCopy_copies q hs), fun h => ⟨fun hp => ?_, fun hp => ?_⟩⟩
  · exact engine_cancels t h rfl (runCommitCancel_cancels q hp)
  · exact engine_replies t h rfl (runCommitCancel_none q hp)

/-! What a commit leaves of the banks and of the replies (R165). -/

/-- The active bank with its state, a pending commit, and the replies with the address they are sent from. -/
structure BankView where
  active        : Bank
  activeLoaded  : Bool
  pendingCommit : Bool
  linkAddr      : Byte
  replies       : List UpFrame

/-- The view of a state. -/
def bankView (s : State) : BankView := ⟨s.active, s.activeLoaded, s.pendingCommit, s.linkAddr, s.replies⟩

/-- The view is part of what routing keeps. -/
theorem bankView_of_kept {s u : State} (h : Kept s u) : bankView u = bankView s := by
  simp only [bankView, h.active, h.activeLoaded, h.pendingCommit, h.linkAddr, h.replies]

section
variable (s : State) (c : Channel)

@[simp] theorem bankView_updCh (f : Chan → Chan) : bankView (s.updCh c f) = bankView s := by cases c <;> rfl

@[simp] theorem bankView_restartFbkGap : bankView (s.restartFbkGap c) = bankView s := bankView_updCh s c _

@[simp] theorem bankView_latchPayload : bankView s.latchPayload = bankView s := rfl

theorem bankView_when (b : Bool) {f : State → State} (h : ∀ x, bankView (f x) = bankView x) :
    bankView (s.when b f) = bankView s := by
  cases b
  · rfl
  · exact h s

@[simp] theorem bankView_handReference (old new : ChanState) :
    bankView (s.handReference c old new) = bankView s := by
  rw [State.handReference, bankView_when _ _ bankView_latchPayload,
    bankView_when _ _ fun x => bankView_restartFbkGap x c, bankView_of_kept (rearmGap_kept _ c old new),
    bankView_when _ _ fun x => bankView_of_kept (endSubstitution_kept x c),
    bankView_when _ _ fun x => bankView_of_kept (zeroReference_kept x c)]

/-- Any change of state, into or out of IDLE as well (R102). -/
@[simp] theorem bankView_changeState (new : ChanState) : bankView (s.changeState c new) = bankView s := by
  unfold State.changeState
  dsimp only
  split
  · rfl
  · rw [bankView_of_kept (commandLine_kept _ c), bankView_of_kept (handEnvelope_kept _ c _ _), bankView_handReference,
      bankView_updCh]

@[simp] theorem bankView_commitBlocks : bankView (s.commitBlocks c) = bankView s := bankView_updCh s c _

@[simp] theorem bankView_commitFlags : bankView (s.commitFlags c) = bankView s := bankView_updCh s c _

@[simp] theorem bankView_commitWindow (was : Bool) : bankView (s.commitWindow c was) = bankView s :=
  bankView_updCh s c _

@[simp] theorem bankView_commitStuck (was : ChanState) : bankView (s.commitStuck c was) = bankView s := by
  unfold State.commitStuck
  split
  · exact bankView_of_kept (raise_kept s _)
  · rfl

@[simp] theorem bankView_offer (b : NoticeBody) : bankView (s.offer b) = bankView s := bankView_of_kept (offer_kept s b)

@[simp] theorem bankView_annotate (f : LinkFrame) : bankView (s.annotate c f) = bankView s := by
  unfold State.annotate
  split <;> rfl

@[simp] theorem bankView_passUpstream (f : LinkFrame) : bankView (s.passUpstream f) = bankView s := by
  unfold State.passUpstream
  split <;> rfl

/-- R19, R6: the end of an evaluation under way, with a frame under way or not, and one waiting or not. -/
@[simp] theorem bankView_endUnderway : bankView (s.endUnderway c) = bankView s := by
  unfold State.endUnderway
  cases (s.ch c).underway <;> cases (s.ch c).place <;> cases s.active.inUse c <;> simp

@[simp] theorem bankView_endEvaluations : bankView s.endEvaluations = bankView s := by
  have hchoose : bankView s.choose.2 = bankView s := rfl
  unfold State.endEvaluations
  split_ifs <;> simp [hchoose]

/-- R165: the first step of a commit replaces the active bank, and no later step touches it or a reply. -/
theorem bankView_applyCommit :
    bankView s.applyCommit = { bankView s with active := s.shadow, activeLoaded := true, pendingCommit := false } := by
  simp only [State.applyCommit, bankView_endEvaluations, bankView_offer, bankView_commitStuck, bankView_commitWindow,
    bankView_changeState, bankView_commitFlags, bankView_commitBlocks]
  rfl

/-- A reply goes out under the address the part holds, and waits behind the others (R176). -/
theorem bankView_reply (q : Request) (st : Status) (data : List Byte) :
    bankView (s.reply q st data) = { bankView s with
      replies := (bankView s).replies ++
        [⟨replyFrame (bankView s).linkAddr q.src q.code q.tag st data, false⟩] } := rfl

end

/-! The checks of a BANK COMMIT in their order (R163). -/

section
variable {s : State} (q : Request)

theorem runBankCommit_checking (h : s.shadowState = .checking) : runBankCommit q s = s.reply q .busy [] := if_pos h

theorem runBankCommit_notValid (hchecking : s.shadowState ≠ .checking) (h : s.shadowState ≠ .valid) :
    runBankCommit q s = s.reply q .refusedBank [] := by
  rw [runBankCommit, if_neg hchecking, if_pos h]

theorem runBankCommit_conflict (hvalid : s.shadowState = .valid) (h : s.barrierConflict s.shadow = true) :
    runBankCommit q s = s.reply q .refusedConflict [] := by
  simp [runBankCommit, hvalid, h]

theorem runBankCommit_alreadyPending (hvalid : s.shadowState = .valid) (hclear : s.barrierConflict s.shadow = false)
    (h : s.pendingCommit = true) : runBankCommit q s = s.reply q .pending [] := by
  simp [runBankCommit, hvalid, hclear, h]

theorem runBankCommit_waits (hvalid : s.shadowState = .valid) (hclear : s.barrierConflict s.shadow = false)
    (hnone : s.pendingCommit = false) (h : ∃ c, s.standsAtRest c = false) :
    runBankCommit q s = { s with pendingCommit := true }.reply q .pending [] := by
  obtain ⟨c, hc⟩ := h
  cases c <;> simp [runBankCommit, hvalid, hclear, hnone, hc]

theorem runBankCommit_applies (hvalid : s.shadowState = .valid) (hclear : s.barrierConflict s.shadow = false)
    (hnone : s.pendingCommit = false) (h : ∀ c, s.standsAtRest c = true) :
    runBankCommit q s = s.applyCommit.reply q .ok [] := by
  simp [runBankCommit, hvalid, hclear, hnone, h]

end

/-- R163 judges the channels as they stand, whatever the moment and the queue. -/
theorem serving_standsAtRest (s : State) (t : Micros) (rest : List Request) (c : Channel) :
    (serving s t rest).standsAtRest c = s.standsAtRest c := by cases c <;> rfl

/-- Settles O24: each check by its case of the rule; an applied commit by what it leaves of the banks and replies. -/
theorem commitWaitsOrIsRefused : Obligations.CommitWaitsOrIsRefused := by
  intro t s q rest h
  refine ⟨fun hs => engine_replies t h rfl (runBankCommit_checking q hs),
    fun hs hv => engine_replies t h rfl (runBankCommit_notValid q hs hv),
    fun hv hb => engine_replies t h rfl (runBankCommit_conflict q hv hb),
    fun hv hb hp => engine_replies t h rfl (runBankCommit_alreadyPending q hv hb hp),
    fun hv hb hp hmoves => ?waits, fun hv hb hp hrest => ?applied⟩
  case waits =>
    have hrun := runBankCommit_waits (s := serving s t rest) q hv hb hp
      (by simpa only [serving_standsAtRest] using hmoves)
    exact engine_quiet t h rfl hrun (by constructor <;> rfl) rfl rfl
  case applied =>
    have hrun := runBankCommit_applies (s := serving s t rest) q hv hb hp
      (by simpa only [serving_standsAtRest] using hrest)
    have hview : bankView (runBankCommit q (serving s t rest)).settle =
        ⟨s.shadow, true, false, s.linkAddr, s.replies ++ [replyTo s q .ok []]⟩ := by
      rw [bankView_of_kept (settle_kept _), hrun, bankView_reply, bankView_applyCommit]
      rfl
    obtain ⟨hactive, hloaded, hpending, -, hreplies⟩ := BankView.mk.inj hview
    exact ⟨_, engine_settled t h rfl, hactive, hloaded, hpending, hreplies⟩

end Sys2Proof.BankRequests
end
